-- ==== Sys2Proof/Word.lean ====
section
/-! DEFINITION. The bit widths PCMCORE uses (00_scope.md R7, 10_state.md R35). -/

namespace Sys2Proof

/-- One byte of a channel. -/
abbrev Byte := BitVec 8

/-- A 32-bit register, header, DATA or LEN word (20_memory.md R50, 30_encoding.md R66). -/
abbrev Word := BitVec 32

/-- A 64-bit quantity: `st.N`, `st.P`, `st.pos`, `st.fill`, `st.peak`, `st.countdown` and the two durations. -/
abbrev Wide := BitVec 64

/-- One slot of the circular buffer, SQUARE_BITS = 111 (R7). -/
abbrev Square := BitVec 111

/-- The running sum of squares, SUM_BITS = 176 (R7). -/
abbrev Sum := BitVec 176

/-- An IEEE 754 binary64 bit pattern, the DB field of a report event (30_encoding.md R79). -/
abbrev Double := BitVec 64

end Sys2Proof
end

