-- ==== Sys2Proof/Config.lean ====
section
/-! DEFINITION. What an implementation of PCMCORE fixes and the spec leaves OPEN (00_scope.md R7, the OPEN table of
92_eei_decisions.md), and the free values. Nothing here has a body: no proof can see a value of it. -/

namespace Sys2Proof

/-- The parameters a model of PCMCORE takes as arguments (R7). The meanings are written over any `Params`; the machine
runs with `Sys2Proof.Machine.params`, made from the constants below. -/
structure Config.Params where
  /-- MAX_CHANNELS: the largest channel count the frame buffer holds. -/
  maxChannels : Nat
  /-- MAX_WINDOW_SLOTS: the capacity of the circular buffer in slots. -/
  maxWindowSlots : Nat
  /-- DBFN_RMS of sum, divisor and word size. -/
  dbfnRms : Nat → Nat → Nat → Double
  /-- DBFN_PEAK of peak and word size. -/
  dbfnPeak : Nat → Nat → Double

/-- One less than MAX_CHANNELS: any number (log entry 5). -/
opaque Config.maxChannelsLessOne : Nat

/-- Any number; MAX_WINDOW_SLOTS is made from it (log entry 5). -/
opaque Config.maxWindowSlotsFree : Nat

/-- The bits of an RMS dB value that no fixed point of R177 decides (log entry 6). -/
opaque Config.rmsDbFree : Nat → Nat → Nat → Double

/-- The bits of a peak dB value that no fixed point of R177 decides (log entry 6). -/
opaque Config.peakDbFree : Nat → Nat → Double

/-- What a buffer slot holds that nothing has written since the last reset, by the number of resets so far and the slot
(10_state.md R23, log entry 7). -/
opaque Config.unwrittenSlot : Nat → Nat → Square

/-- The 32-bit `st.frameBytes` of a configuration whose frame has 2^32 bytes or more, by the channel count and the bytes of a
word (10_state.md R20, log entry 8). -/
opaque Config.frameBytesFree : Nat → Nat → Nat

/-- What a word of such a configuration has in place of a byte beyond the end of the frame, by the frame and the position
(log entry 8). -/
opaque Config.byteBeyondFrame : List Byte → Nat → Byte

/-- What `rd PEND` answers when the pending length does not fit 32 bits (log entry 9). -/
opaque Config.pendOverflow : Nat → Word

end Sys2Proof
end

