-- ==== Sys2Proof/Syntax.lean ====
section
/-! DEFINITION. The host transactions of PCMCORE, one constructor per row of spec/opcode_table.json
(30_encoding.md R66 to R75, 40_host_registers.md R86). -/

namespace Sys2Proof

/-- A host transaction. `v` is the DATA word of a REG_WRITE (R67). -/
inductive Instr where
  /-- `wr RATE, v`, offset 0x00 (R88). -/
  | wrRate (v : Word)
  /-- `wr CHANNELS, v`, offset 0x04 (R89). -/
  | wrChannels (v : Word)
  /-- `wr FORMAT, v`, offset 0x08 (R90). -/
  | wrFormat (v : Word)
  /-- `wr WINDOW_LO, v`, offset 0x0C (R91). -/
  | wrWindowLo (v : Word)
  /-- `wr WINDOW_HI, v`, offset 0x10 (R92). -/
  | wrWindowHi (v : Word)
  /-- `wr OBSERVE_LO, v`, offset 0x14 (R93). -/
  | wrObserveLo (v : Word)
  /-- `wr OBSERVE_HI, v`, offset 0x18 (R94). -/
  | wrObserveHi (v : Word)
  /-- `wr STATUS, v`, offset 0x1C (R105). -/
  | wrStatus (v : Word)
  /-- `wr RESULT, v`, offset 0x20 (R105). -/
  | wrResult (v : Word)
  /-- `wr CTRL, v`, offset 0x24 (R104). -/
  | wrCtrl (v : Word)
  /-- `wr PERIOD_LO, v`, offset 0x28 (R105). -/
  | wrPeriodLo (v : Word)
  /-- `wr PERIOD_HI, v`, offset 0x2C (R105). -/
  | wrPeriodHi (v : Word)
  /-- `wr WSAMP_LO, v`, offset 0x30 (R105). -/
  | wrWsampLo (v : Word)
  /-- `wr WSAMP_HI, v`, offset 0x34 (R105). -/
  | wrWsampHi (v : Word)
  /-- `wr COUNT_LO, v`, offset 0x38 (R105). -/
  | wrCountLo (v : Word)
  /-- `wr COUNT_HI, v`, offset 0x3C (R105). -/
  | wrCountHi (v : Word)
  /-- `wr FILL_LO, v`, offset 0x40 (R105). -/
  | wrFillLo (v : Word)
  /-- `wr FILL_HI, v`, offset 0x44 (R105). -/
  | wrFillHi (v : Word)
  /-- `wr PEAK_LO, v`, offset 0x48 (R105). -/
  | wrPeakLo (v : Word)
  /-- `wr PEAK_HI, v`, offset 0x4C (R105). -/
  | wrPeakHi (v : Word)
  /-- `wr PEND, v`, offset 0x50 (R105). -/
  | wrPend (v : Word)
  /-- `wr POS_LO, v`, offset 0x54 (R105). -/
  | wrPosLo (v : Word)
  /-- `wr POS_HI, v`, offset 0x58 (R105). -/
  | wrPosHi (v : Word)
  /-- `wr SUM0, v`, offset 0x60 (R105). -/
  | wrSum0 (v : Word)
  /-- `wr SUM1, v`, offset 0x64 (R105). -/
  | wrSum1 (v : Word)
  /-- `wr SUM2, v`, offset 0x68 (R105). -/
  | wrSum2 (v : Word)
  /-- `wr SUM3, v`, offset 0x6C (R105). -/
  | wrSum3 (v : Word)
  /-- `wr SUM4, v`, offset 0x70 (R105). -/
  | wrSum4 (v : Word)
  /-- `wr SUM5, v`, offset 0x74 (R105). -/
  | wrSum5 (v : Word)
  /-- `wr` of the reserved offset 0x5C (R126). -/
  | wrReserved5C (v : Word)
  /-- `wr` of the reserved offset 0x78 (R126). -/
  | wrReserved78 (v : Word)
  /-- `wr` of the reserved offset 0x7C (R126). -/
  | wrReserved7C (v : Word)
  /-- `wr` of a reserved offset 0x80 to 0xFC, a multiple of 4 (R126). -/
  | wrReservedHigh (off : Byte) (v : Word)
  /-- `rd RATE`, offset 0x00 (R95). -/
  | rdRate
  /-- `rd CHANNELS`, offset 0x04 (R96). -/
  | rdChannels
  /-- `rd FORMAT`, offset 0x08 (R97). -/
  | rdFormat
  /-- `rd WINDOW_LO`, offset 0x0C (R98). -/
  | rdWindowLo
  /-- `rd WINDOW_HI`, offset 0x10 (R99). -/
  | rdWindowHi
  /-- `rd OBSERVE_LO`, offset 0x14 (R100). -/
  | rdObserveLo
  /-- `rd OBSERVE_HI`, offset 0x18 (R101). -/
  | rdObserveHi
  /-- `rd STATUS`, offset 0x1C (R102). -/
  | rdStatus
  /-- `rd RESULT`, offset 0x20 (R103). -/
  | rdResult
  /-- `rd CTRL`, offset 0x24 (R106). -/
  | rdCtrl
  /-- `rd PERIOD_LO`, offset 0x28 (R107). -/
  | rdPeriodLo
  /-- `rd PERIOD_HI`, offset 0x2C (R108). -/
  | rdPeriodHi
  /-- `rd WSAMP_LO`, offset 0x30 (R109). -/
  | rdWsampLo
  /-- `rd WSAMP_HI`, offset 0x34 (R110). -/
  | rdWsampHi
  /-- `rd COUNT_LO`, offset 0x38 (R111). -/
  | rdCountLo
  /-- `rd COUNT_HI`, offset 0x3C (R112). -/
  | rdCountHi
  /-- `rd FILL_LO`, offset 0x40 (R113). -/
  | rdFillLo
  /-- `rd FILL_HI`, offset 0x44 (R114). -/
  | rdFillHi
  /-- `rd PEAK_LO`, offset 0x48 (R115). -/
  | rdPeakLo
  /-- `rd PEAK_HI`, offset 0x4C (R116). -/
  | rdPeakHi
  /-- `rd PEND`, offset 0x50 (R117). -/
  | rdPend
  /-- `rd POS_LO`, offset 0x54 (R118). -/
  | rdPosLo
  /-- `rd POS_HI`, offset 0x58 (R119). -/
  | rdPosHi
  /-- `rd SUM0`, offset 0x60 (R120). -/
  | rdSum0
  /-- `rd SUM1`, offset 0x64 (R121). -/
  | rdSum1
  /-- `rd SUM2`, offset 0x68 (R122). -/
  | rdSum2
  /-- `rd SUM3`, offset 0x6C (R123). -/
  | rdSum3
  /-- `rd SUM4`, offset 0x70 (R124). -/
  | rdSum4
  /-- `rd SUM5`, offset 0x74 (R125). -/
  | rdSum5
  /-- `rd` of the reserved offset 0x5C (R126). -/
  | rdReserved5C
  /-- `rd` of the reserved offset 0x78 (R126). -/
  | rdReserved78
  /-- `rd` of the reserved offset 0x7C (R126). -/
  | rdReserved7C
  /-- `rd` of a reserved offset 0x80 to 0xFC, a multiple of 4 (R126). -/
  | rdReservedHigh (off : Byte)
  /-- `write [b_0 … b_(LEN−1)]`: LEN is the payload's length (R139). -/
  | write (payload : List Byte)
  /-- A header that no legal form matches; it consumes its 4 bytes only (30_encoding.md R75). -/
  | illegal (header : Word)
  deriving DecidableEq, Repr

end Sys2Proof
end

