-- ==== Sys2Proof/WellFormed.lean ====
section
/-! DEFINITION. Which terms of `Instr` stand for a transaction the channel can carry. -/

namespace Sys2Proof

/-- The header is illegal, word for word 30_encoding.md R75. -/
def headerIllegal (h : Word) : Bool :=
  let type := (h.extractLsb' 28 4).toNat
  let register := type == 1 || type == 2
  type == 0 || 4 ≤ type
    || (register && h.extractLsb' 8 20 != 0)
    || (register && h.extractLsb' 0 2 != 0)
    || (type == 3 && h.extractLsb' 0 28 != 0)

/-- The reserved offsets of the table's last range: 0x80 to 0xFC, multiples of 4 (40_host_registers.md R126). -/
def reservedHighOffset (off : Byte) : Bool :=
  0x80 ≤ off.toNat && off.toNat % 4 == 0

/-- A transaction the host can send: a payload fits LEN (MAX_CHUNK, R69), the two offsets of the reserved range lie in it
(R126), and an illegal header is illegal (R75). Every other constructor is well formed. -/
def Instr.wf : Instr → Bool
  | .wrReservedHigh off _ => reservedHighOffset off
  | .rdReservedHigh off => reservedHighOffset off
  | .write payload => payload.length < 2 ^ 32
  | .illegal header => headerIllegal header
  | .wrRate _ => true
  | .wrChannels _ => true
  | .wrFormat _ => true
  | .wrWindowLo _ => true
  | .wrWindowHi _ => true
  | .wrObserveLo _ => true
  | .wrObserveHi _ => true
  | .wrStatus _ => true
  | .wrResult _ => true
  | .wrCtrl _ => true
  | .wrPeriodLo _ => true
  | .wrPeriodHi _ => true
  | .wrWsampLo _ => true
  | .wrWsampHi _ => true
  | .wrCountLo _ => true
  | .wrCountHi _ => true
  | .wrFillLo _ => true
  | .wrFillHi _ => true
  | .wrPeakLo _ => true
  | .wrPeakHi _ => true
  | .wrPend _ => true
  | .wrPosLo _ => true
  | .wrPosHi _ => true
  | .wrSum0 _ => true
  | .wrSum1 _ => true
  | .wrSum2 _ => true
  | .wrSum3 _ => true
  | .wrSum4 _ => true
  | .wrSum5 _ => true
  | .wrReserved5C _ => true
  | .wrReserved78 _ => true
  | .wrReserved7C _ => true
  | .rdRate => true
  | .rdChannels => true
  | .rdFormat => true
  | .rdWindowLo => true
  | .rdWindowHi => true
  | .rdObserveLo => true
  | .rdObserveHi => true
  | .rdStatus => true
  | .rdResult => true
  | .rdCtrl => true
  | .rdPeriodLo => true
  | .rdPeriodHi => true
  | .rdWsampLo => true
  | .rdWsampHi => true
  | .rdCountLo => true
  | .rdCountHi => true
  | .rdFillLo => true
  | .rdFillHi => true
  | .rdPeakLo => true
  | .rdPeakHi => true
  | .rdPend => true
  | .rdPosLo => true
  | .rdPosHi => true
  | .rdSum0 => true
  | .rdSum1 => true
  | .rdSum2 => true
  | .rdSum3 => true
  | .rdSum4 => true
  | .rdSum5 => true
  | .rdReserved5C => true
  | .rdReserved78 => true
  | .rdReserved7C => true

end Sys2Proof
end

