-- ==== Sys2Proof/Decode.lean ====
section
/-! DEFINITION. The byte order of the channels, the decoder of the transaction channel and its encoder
(30_encoding.md R66 to R75, R82). -/

namespace Sys2Proof

/-- The low `n` bytes of a number, least significant first: the order of every channel field (20_memory.md R49). -/
def bytesLE : Nat → Nat → List Byte
  | 0, _ => []
  | n + 1, v => BitVec.ofNat 8 v :: bytesLE n (v / 256)

/-- The number whose bytes these are, least significant first: `Σ byte_k * 2^(8k)` (R62, R144). -/
def natLE : List Byte → Nat
  | [] => 0
  | b :: bs => b.toNat + 256 * natLE bs

/-- The number whose bytes these are, most significant first: `Σ byte_k * 2^(8(B−1−k))` (R62, R144). -/
def natBE (bs : List Byte) : Nat := natLE bs.reverse

/-- Four channel bytes as a 32-bit word, `b0` its bits 7:0 (R66, R70). -/
def wordOfBytes (b0 b1 b2 b3 : Byte) : Word := b3 ++ b2 ++ b1 ++ b0

/-- The four channel bytes of a word, in channel order (R49). -/
def bytesOfWord (w : Word) : List Byte :=
  [w.extractLsb' 0 8, w.extractLsb' 8 8, w.extractLsb' 16 8, w.extractLsb' 24 8]

/-- What a header announces (R71). -/
inductive HeaderForm where
  /-- Format RW, TYPE 1 (R67). -/
  | regWrite (off : Byte)
  /-- Format RR, TYPE 2 (R68). -/
  | regRead (off : Byte)
  /-- Format WR, TYPE 3 (R69). -/
  | write
  /-- No legal form (R75). -/
  | illegal
  deriving DecidableEq, Repr

/-- The legal headers of R72; every other header is illegal. H[31:28] is TYPE, H[27:8] ZERO, H[7:0] OFFSET (R66). -/
def classify (h : Word) : HeaderForm :=
  let off := h.extractLsb' 0 8
  if h.extractLsb' 8 20 != 0 then .illegal
  else match (h.extractLsb' 28 4).toNat with
    | 1 => if off.extractLsb' 0 2 == 0 then .regWrite off else .illegal
    | 2 => if off.extractLsb' 0 2 == 0 then .regRead off else .illegal
    | 3 => if off == 0 then .write else .illegal
    | _ => .illegal

/-- The REG_WRITE of an aligned offset (R72, R73). -/
def decodeRegWrite (off : Byte) (v : Word) : Instr :=
  match off.toNat with
  | 0x00 => .wrRate v
  | 0x04 => .wrChannels v
  | 0x08 => .wrFormat v
  | 0x0C => .wrWindowLo v
  | 0x10 => .wrWindowHi v
  | 0x14 => .wrObserveLo v
  | 0x18 => .wrObserveHi v
  | 0x1C => .wrStatus v
  | 0x20 => .wrResult v
  | 0x24 => .wrCtrl v
  | 0x28 => .wrPeriodLo v
  | 0x2C => .wrPeriodHi v
  | 0x30 => .wrWsampLo v
  | 0x34 => .wrWsampHi v
  | 0x38 => .wrCountLo v
  | 0x3C => .wrCountHi v
  | 0x40 => .wrFillLo v
  | 0x44 => .wrFillHi v
  | 0x48 => .wrPeakLo v
  | 0x4C => .wrPeakHi v
  | 0x50 => .wrPend v
  | 0x54 => .wrPosLo v
  | 0x58 => .wrPosHi v
  | 0x60 => .wrSum0 v
  | 0x64 => .wrSum1 v
  | 0x68 => .wrSum2 v
  | 0x6C => .wrSum3 v
  | 0x70 => .wrSum4 v
  | 0x74 => .wrSum5 v
  | 0x5C => .wrReserved5C v
  | 0x78 => .wrReserved78 v
  | 0x7C => .wrReserved7C v
  | _ => .wrReservedHigh off v

/-- The REG_READ of an aligned offset (R72, R73). -/
def decodeRegRead (off : Byte) : Instr :=
  match off.toNat with
  | 0x00 => .rdRate
  | 0x04 => .rdChannels
  | 0x08 => .rdFormat
  | 0x0C => .rdWindowLo
  | 0x10 => .rdWindowHi
  | 0x14 => .rdObserveLo
  | 0x18 => .rdObserveHi
  | 0x1C => .rdStatus
  | 0x20 => .rdResult
  | 0x24 => .rdCtrl
  | 0x28 => .rdPeriodLo
  | 0x2C => .rdPeriodHi
  | 0x30 => .rdWsampLo
  | 0x34 => .rdWsampHi
  | 0x38 => .rdCountLo
  | 0x3C => .rdCountHi
  | 0x40 => .rdFillLo
  | 0x44 => .rdFillHi
  | 0x48 => .rdPeakLo
  | 0x4C => .rdPeakHi
  | 0x50 => .rdPend
  | 0x54 => .rdPosLo
  | 0x58 => .rdPosHi
  | 0x60 => .rdSum0
  | 0x64 => .rdSum1
  | 0x68 => .rdSum2
  | 0x6C => .rdSum3
  | 0x70 => .rdSum4
  | 0x74 => .rdSum5
  | 0x5C => .rdReserved5C
  | 0x78 => .rdReserved78
  | 0x7C => .rdReserved7C
  | _ => .rdReservedHigh off

/-- Why the bytes so far are no whole transaction: which part the block still waits for (R71, R213). -/
inductive Incomplete where
  /-- No byte at all. -/
  | nothing
  /-- One to three bytes of a header. -/
  | header
  /-- A REG_WRITE header without its four DATA bytes. -/
  | data
  /-- A WRITE header without its four LEN bytes. -/
  | len
  /-- A WRITE with fewer than LEN payload bytes. -/
  | payload
  deriving DecidableEq, Repr

/-- Reads one transaction from the front of the channel bytes and answers it with the bytes after it (R71). Total: every
four-byte header is a legal form or illegal, and only missing bytes are rejected, by name. -/
def decode : List Byte → Except Incomplete (Instr × List Byte)
  | [] => .error .nothing
  | b0 :: b1 :: b2 :: b3 :: rest =>
    let h := wordOfBytes b0 b1 b2 b3
    match classify h with
    | .illegal => .ok (.illegal h, rest)
    | .regRead off => .ok (decodeRegRead off, rest)
    | .regWrite off =>
      match rest with
      | d0 :: d1 :: d2 :: d3 :: rest => .ok (decodeRegWrite off (wordOfBytes d0 d1 d2 d3), rest)
      | _ => .error .data
    | .write =>
      match rest with
      | n0 :: n1 :: n2 :: n3 :: rest =>
        let len := (wordOfBytes n0 n1 n2 n3).toNat
        if len ≤ rest.length then .ok (.write (rest.take len), rest.drop len) else .error .payload
      | _ => .error .len
  | _ => .error .header

/-- `wr` at an offset, format RW (R67, R82). -/
def encodeRegWrite (off : Byte) (v : Word) : List Byte :=
  bytesOfWord (0x100000#24 ++ off) ++ bytesOfWord v

/-- `rd` at an offset, format RR (R68, R82). -/
def encodeRegRead (off : Byte) : List Byte :=
  bytesOfWord (0x200000#24 ++ off)

/-- The channel bytes of a transaction (R82). -/
def encode : Instr → List Byte
  | .wrRate v => encodeRegWrite 0x00#8 v
  | .wrChannels v => encodeRegWrite 0x04#8 v
  | .wrFormat v => encodeRegWrite 0x08#8 v
  | .wrWindowLo v => encodeRegWrite 0x0C#8 v
  | .wrWindowHi v => encodeRegWrite 0x10#8 v
  | .wrObserveLo v => encodeRegWrite 0x14#8 v
  | .wrObserveHi v => encodeRegWrite 0x18#8 v
  | .wrStatus v => encodeRegWrite 0x1C#8 v
  | .wrResult v => encodeRegWrite 0x20#8 v
  | .wrCtrl v => encodeRegWrite 0x24#8 v
  | .wrPeriodLo v => encodeRegWrite 0x28#8 v
  | .wrPeriodHi v => encodeRegWrite 0x2C#8 v
  | .wrWsampLo v => encodeRegWrite 0x30#8 v
  | .wrWsampHi v => encodeRegWrite 0x34#8 v
  | .wrCountLo v => encodeRegWrite 0x38#8 v
  | .wrCountHi v => encodeRegWrite 0x3C#8 v
  | .wrFillLo v => encodeRegWrite 0x40#8 v
  | .wrFillHi v => encodeRegWrite 0x44#8 v
  | .wrPeakLo v => encodeRegWrite 0x48#8 v
  | .wrPeakHi v => encodeRegWrite 0x4C#8 v
  | .wrPend v => encodeRegWrite 0x50#8 v
  | .wrPosLo v => encodeRegWrite 0x54#8 v
  | .wrPosHi v => encodeRegWrite 0x58#8 v
  | .wrSum0 v => encodeRegWrite 0x60#8 v
  | .wrSum1 v => encodeRegWrite 0x64#8 v
  | .wrSum2 v => encodeRegWrite 0x68#8 v
  | .wrSum3 v => encodeRegWrite 0x6C#8 v
  | .wrSum4 v => encodeRegWrite 0x70#8 v
  | .wrSum5 v => encodeRegWrite 0x74#8 v
  | .wrReserved5C v => encodeRegWrite 0x5C#8 v
  | .wrReserved78 v => encodeRegWrite 0x78#8 v
  | .wrReserved7C v => encodeRegWrite 0x7C#8 v
  | .wrReservedHigh off v => encodeRegWrite off v
  | .rdRate => encodeRegRead 0x00#8
  | .rdChannels => encodeRegRead 0x04#8
  | .rdFormat => encodeRegRead 0x08#8
  | .rdWindowLo => encodeRegRead 0x0C#8
  | .rdWindowHi => encodeRegRead 0x10#8
  | .rdObserveLo => encodeRegRead 0x14#8
  | .rdObserveHi => encodeRegRead 0x18#8
  | .rdStatus => encodeRegRead 0x1C#8
  | .rdResult => encodeRegRead 0x20#8
  | .rdCtrl => encodeRegRead 0x24#8
  | .rdPeriodLo => encodeRegRead 0x28#8
  | .rdPeriodHi => encodeRegRead 0x2C#8
  | .rdWsampLo => encodeRegRead 0x30#8
  | .rdWsampHi => encodeRegRead 0x34#8
  | .rdCountLo => encodeRegRead 0x38#8
  | .rdCountHi => encodeRegRead 0x3C#8
  | .rdFillLo => encodeRegRead 0x40#8
  | .rdFillHi => encodeRegRead 0x44#8
  | .rdPeakLo => encodeRegRead 0x48#8
  | .rdPeakHi => encodeRegRead 0x4C#8
  | .rdPend => encodeRegRead 0x50#8
  | .rdPosLo => encodeRegRead 0x54#8
  | .rdPosHi => encodeRegRead 0x58#8
  | .rdSum0 => encodeRegRead 0x60#8
  | .rdSum1 => encodeRegRead 0x64#8
  | .rdSum2 => encodeRegRead 0x68#8
  | .rdSum3 => encodeRegRead 0x6C#8
  | .rdSum4 => encodeRegRead 0x70#8
  | .rdSum5 => encodeRegRead 0x74#8
  | .rdReserved5C => encodeRegRead 0x5C#8
  | .rdReserved78 => encodeRegRead 0x78#8
  | .rdReserved7C => encodeRegRead 0x7C#8
  | .rdReservedHigh off => encodeRegRead off
  | .write payload => bytesOfWord 0x30000000#32 ++ bytesOfWord (BitVec.ofNat 32 payload.length) ++ payload
  | .illegal header => bytesOfWord header

/-- The bytes an opcode-table word stands for: the word's bytes with zeros above `nbits`, at least header and one operand
word, and for a WRITE as many zero payload bytes as its LEN asks for. -/
def tableBytes (nbits w : Nat) : List Byte :=
  let bs := bytesLE (max (nbits / 8) 8) (w % 2 ^ nbits)
  match bs with
  | b0 :: b1 :: b2 :: b3 :: n0 :: n1 :: n2 :: n3 :: rest =>
    match classify (wordOfBytes b0 b1 b2 b3) with
    | .write => bs ++ List.replicate ((wordOfBytes n0 n1 n2 n3).toNat - rest.length) 0#8
    | _ => bs
  | _ => bs

/-- The instruction the decoder reads from an opcode-table word. -/
def decodeTableWord (nbits w : Nat) : Option Instr :=
  match decode (tableBytes nbits w) with
  | .ok (i, _) => some i
  | .error _ => none

/-- The bytes of an opcode-table word that its instruction consumes. -/
def tableTransaction (nbits w : Nat) : List Byte :=
  let bs := tableBytes nbits w
  match decode bs with
  | .ok (_, rest) => bs.take (bs.length - rest.length)
  | .error _ => bs

end Sys2Proof
end

