-- ==== Sys2Proof/Machine/State.lean ====
section
/-! DEFINITION. The state of PCMCORE (10_state.md), plain data, and the state after reset (R35). -/

namespace Sys2Proof.Machine

/-- The lifecycle phase, `st.phase` (R18). -/
inductive Phase where
  | unconfigured
  | running
  deriving DecidableEq, Repr

/-- The mode of the rolling window, `st.mode` (R20, 41_config_validator.md R134). -/
inductive Mode where
  | circular
  | reset
  deriving DecidableEq, Repr

/-- The response codes, the CODE byte 0 to 4 (60_exceptions.md R185). -/
inductive Code where
  | ok
  | badParameters
  | unsupportedConfig
  | configLocked
  | illegal
  deriving DecidableEq, Repr

/-- What the block sends: responses (30_encoding.md R78) and report events (R79, 45_report_scheduler.md R178). -/
inductive Output where
  /-- The response of a transaction. -/
  | response (code : Code) (data : Word)
  /-- The RMS event of a report. -/
  | rmsEvent (db : Double) (div : Wide) (sum : Sum)
  /-- The PEAK event of a report. -/
  | peakEvent (db : Double) (peak : Wide)
  deriving DecidableEq, Repr

/-- What the host does to the block: it sends the next byte of the transaction channel (R66) or raises the hardware reset
(70_reset_and_hazards.md R203, R204). -/
inductive HostItem where
  | byte (b : Byte)
  | reset
  deriving DecidableEq, Repr

/-- The storage of the circular buffer: the slots written since the last reset with the squares they hold, slots strictly
rising. A slot not listed is unwritten (R23, log entry 7). -/
abbrev Memory := List (Nat × Square)

/-- The canonical form: slots strictly rising, so none twice. An unlisted slot has no chosen value, so no listed value is
the one it reads as. -/
abbrev Memory.wf (m : Memory) : Prop := m.Pairwise (fun a b => a.1 < b.1)

/-- All state the spec gives PCMCORE (R35), then the model's own fields (log entries 1, 4, 7). -/
structure State where
  /-- `reg[RATE]` (R19). -/
  rate : Word
  /-- `reg[CHANNELS]` (R19). -/
  channels : Word
  /-- `reg[FORMAT]`: WSIZE 7:0, LE 8, SIGNED 9, RMS_EN 16, PEAK_EN 17 (R19, R74). -/
  format : Word
  /-- `reg[WINDOW_LO]` (R19). -/
  windowLo : Word
  /-- `reg[WINDOW_HI]` (R19). -/
  windowHi : Word
  /-- `reg[OBSERVE_LO]` (R19). -/
  observeLo : Word
  /-- `reg[OBSERVE_HI]` (R19). -/
  observeHi : Word
  /-- `st.phase` (R18). -/
  phase : Phase
  /-- `st.mode` (R20). -/
  mode : Mode
  /-- `st.frameBytes` (R20, log entry 8). -/
  frameBytes : BitVec 32
  /-- `st.wordBytes` (R20). -/
  wordBytes : BitVec 3
  /-- `st.wordMax` (R20). -/
  wordMax : BitVec 56
  /-- `st.N`, windowSamples (R20). -/
  N : Wide
  /-- `st.P`, reportPeriodSamples (R20). -/
  P : Wide
  /-- `st.pend`, oldest byte first (R22). -/
  pend : List Byte
  /-- `st.buf` (R23). -/
  buf : Memory
  /-- `st.pos` (R24). -/
  pos : Wide
  /-- `st.fill` (R25). -/
  fill : Wide
  /-- `st.sum` (R26). -/
  sum : Sum
  /-- `st.peak` (R27). -/
  peak : Wide
  /-- `st.countdown` (R28). -/
  countdown : Wide
  /-- `st.lastCode` (R29). -/
  lastCode : Code
  /-- `st.lockFault`, sticky (R29). -/
  lockFault : Bool
  /-- `st.illegalFault`, sticky (R29). -/
  illegalFault : Bool
  /-- `st.result` (R30). -/
  result : Word
  /-- The model's own: what the host has sent and the block has not consumed (R34, log entry 1). -/
  input : List HostItem
  /-- The model's own: everything sent so far, oldest first (R34, log entry 4). -/
  out : List Output
  /-- The model's own: how many resets have happened (log entry 7). -/
  bufEpoch : Nat
  deriving DecidableEq, Repr

/-- The two waits of the block. Neither is an error of the hardware: the step stops because the block takes no further
step until the host sends something (60_exceptions.md R202, 93 U15, log entry 2). -/
inductive Fault where
  /-- Raised by `step` when no byte has come since the last transaction: the block is idle and keeps all state (R201,
  R205). Safe: nothing follows from a stop. -/
  | idle
  /-- Raised by `step` when a transaction has begun and some of its bytes have not come (R202, R213). Safe: nothing follows
  from a stop. -/
  | awaitingBytes
  deriving DecidableEq, Repr

/-- Why an instruction has no meaning. -/
inductive Refusal where
  /-- Raised by `exec` for an instruction not modelled yet; no arm does. Safe: nothing follows from a refusal. -/
  | notModelled (mnemonic : String)
  deriving DecidableEq, Repr

/-- The machine right after reset: every value of R35. The spec's fields are all given there; `input` and `out` are empty
and `bufEpoch` is 0 by log entries 1, 4 and 7. -/
def State.reset : State where
  rate := 0
  channels := 0
  format := 0
  windowLo := 0
  windowHi := 0
  observeLo := 0
  observeHi := 0
  phase := .unconfigured
  mode := .circular
  frameBytes := 0
  wordBytes := 0
  wordMax := 0
  N := 0
  P := 0
  pend := []
  buf := []
  pos := 0
  fill := 0
  sum := 0
  peak := 0
  countdown := 0
  lastCode := .ok
  lockFault := false
  illegalFault := false
  result := 0
  input := []
  out := []
  bufEpoch := 0

end Sys2Proof.Machine
end

