-- ==== Sys2Proof/Machine/Operands.lean ====
section
/-! DEFINITION. What the meanings read: the fields of the configuration registers (10_state.md R19), the two durations, the
parts of 64-bit and 176-bit quantities (20_memory.md R50), and the bytes the block sends (30_encoding.md R78, R79). -/

namespace Sys2Proof.Machine

/-- `wsize`, FORMAT[7:0] (R19). -/
def State.wsize (s : State) : Nat := (s.format.extractLsb' 0 8).toNat

/-- `le`, FORMAT[8] (R19). -/
def State.le (s : State) : Bool := s.format.getLsbD 8

/-- `signed`, FORMAT[9] (R19). -/
def State.signed (s : State) : Bool := s.format.getLsbD 9

/-- `rmsEn`, FORMAT[16] (R19). -/
def State.rmsEn (s : State) : Bool := s.format.getLsbD 16

/-- `peakEn`, FORMAT[17] (R19). -/
def State.peakEn (s : State) : Bool := s.format.getLsbD 17

/-- `window = {WINDOW_HI, WINDOW_LO}`, in ns (R19). -/
def State.window (s : State) : Wide := s.windowHi ++ s.windowLo

/-- `observe = {OBSERVE_HI, OBSERVE_LO}`, in ns (R19). -/
def State.observe (s : State) : Wide := s.observeHi ++ s.observeLo

/-- The bits of FORMAT that a write keeps: WSIZE, LE, SIGNED, RMS_EN, PEAK_EN (40_host_registers.md R90). -/
def formatMask : Word := 0x000303FF#32

/-- Bits 31:0 of a 64-bit quantity, its `_LO` register (R50). -/
def loWord (v : Wide) : Word := v.extractLsb' 0 32

/-- Bits 63:32 of a 64-bit quantity, its `_HI` register (R50). -/
def hiWord (v : Wide) : Word := v.extractLsb' 32 32

/-- Bits 32k+31:32k of the running sum, the register SUMk; bits past 175 read 0 (R50, 40_host_registers.md R120 to R125). -/
def sumWord (k : Nat) (v : Sum) : Word := v.extractLsb' (32 * k) 32

/-- The pending length as a response word (R117): the length where it fits 32 bits, and a value the spec does not state
where it does not (log entry 9). -/
def pendWord (n : Nat) : Word :=
  if n < 2 ^ 32 then BitVec.ofNat 32 n else Config.pendOverflow n

/-- The number of a response code (60_exceptions.md R185). -/
def Code.number : Code → Nat
  | .ok => 0
  | .badParameters => 1
  | .unsupportedConfig => 2
  | .configLocked => 3
  | .illegal => 4

/-- The bytes of a response, 5 of them (R78), or of a report event, 39 or 17 of them (R79). -/
def Output.bytes : Output → List Byte
  | .response code data => BitVec.ofNat 8 code.number :: bytesOfWord data
  | .rmsEvent db div sum => 0x01#8 :: (bytesLE 8 db.toNat ++ bytesLE 8 div.toNat ++ bytesLE 22 sum.toNat)
  | .peakEvent db peak => 0x02#8 :: (bytesLE 8 db.toNat ++ bytesLE 8 peak.toNat)

/-- A message of the response channel, as against the report port. -/
def Output.isResponse : Output → Bool
  | .response _ _ => true
  | .rmsEvent _ _ _ => false
  | .peakEvent _ _ => false

/-- The response stream of R34: the responses of the history, in order. -/
def State.responses (s : State) : List Output := s.out.filter Output.isResponse

/-- The report event stream of R34: the report events of the history, in order. -/
def State.events (s : State) : List Output := s.out.filter (fun o => !o.isResponse)

end Sys2Proof.Machine
end

