-- ==== Sys2Proof/Machine/Flags.lean ====
section
/-! DEFINITION. The only flags PCMCORE has: the bits of STATUS (10_state.md R29, R31, 40_host_registers.md R102). No
arithmetic writes a flag. -/

namespace Sys2Proof.Machine

/-- STATUS.RUN (R102). -/
def State.runBit (s : State) : Bool := s.phase == .running

/-- STATUS.RMODE: RUNNING in RESET mode (R102). -/
def State.rmodeBit (s : State) : Bool := s.phase == .running && s.mode == .reset

/-- `reg[STATUS]`: bit 0 RUN, bit 1 RMODE, bits 7:4 LASTCODE, bit 8 LOCK_FAULT, bit 9 ILLEGAL_FAULT, every other bit 0
(R102). -/
def State.status (s : State) : Word :=
  0#22 ++ BitVec.ofBool s.illegalFault ++ BitVec.ofBool s.lockFault ++ BitVec.ofNat 4 s.lastCode.number
    ++ 0#2 ++ BitVec.ofBool s.rmodeBit ++ BitVec.ofBool s.runBit

/-- `st.lockFault <- 1`: sticky, cleared only by a reset (R29, R87). -/
def State.raiseLockFault (s : State) : State := { s with lockFault := true }

/-- `st.illegalFault <- 1`: sticky, cleared only by a reset (R29, R75). -/
def State.raiseIllegalFault (s : State) : State := { s with illegalFault := true }

end Sys2Proof.Machine
end

