-- ==== Sys2Proof/Machine/Ops.lean ====
section
/-! DEFINITION. The named operations of the rules: `Respond`, `Emit` (00_scope.md R11), `raise` (R11, 60_exceptions.md
R191), the configuration lock (40_host_registers.md R87), reset (70_reset_and_hazards.md R203), and the slots of the circular
buffer (10_state.md R23). -/

namespace Sys2Proof.Machine

/-- `Respond(code, data)`: sends the one response of the transaction (R11, R78). -/
def State.respond (s : State) (code : Code) (data : Word) : State :=
  { s with out := s.out ++ [.response code data] }

/-- `Emit`, for the events of one report in order (R11, R178, R183). -/
def State.emit (s : State) (events : List Output) : State :=
  { s with out := s.out ++ events }

/-- `raise`: ends the transaction with an error response. An error is not a trap: nothing is saved, no handler runs, no
mode changes, and there is nothing to return from (R191, R192). The caller records first what the error's rule says. -/
def State.raiseError (s : State) (code : Code) : State := s.respond code 0

/-- Reset, hardware or soft: every piece of state takes its reset value (R203). What the host has sent, what the block has
sent and the count of resets are not the block's state (R34); the contents of the buffer are unspecified anew, so the count
goes up (log entry 7). -/
def State.performReset (s : State) : State :=
  { State.reset with input := s.input, out := s.out, bufEpoch := s.bufEpoch + 1 }

/-- A write to a configuration register: refused in RUNNING with CONFIG_LOCKED and the sticky fault, the register keeping
its value (R87, R188); else it has the effect `store` and responds OK (R88 to R94). -/
def State.writeConfig (s : State) (store : State → State) : State :=
  match s.phase with
  | .running => s.raiseLockFault.raiseError .configLocked
  | .unconfigured => (store s).respond .ok 0

/-- What a buffer slot holds if it has been written since the last reset. -/
def Memory.find? (m : Memory) (slot : Nat) : Option Square :=
  match m with
  | [] => none
  | (j, q) :: rest => if j = slot then some q else Memory.find? rest slot

/-- The buffer with a square stored in a slot, in canonical form. -/
def Memory.write (m : Memory) (slot : Nat) (q : Square) : Memory :=
  match m with
  | [] => [(slot, q)]
  | (j, r) :: rest =>
    if slot < j then (slot, q) :: (j, r) :: rest
    else if slot = j then (slot, q) :: rest
    else (j, r) :: Memory.write rest slot q

/-- `st.buf[i]`: the square the slot holds, or for an unwritten slot an unspecified value (R23, log entry 7). -/
def State.readSlot (s : State) (slot : Nat) : Square :=
  match s.buf.find? slot with
  | some q => q
  | none => Config.unwrittenSlot s.bufEpoch slot

/-- `st.buf[i] <- q` (R154). -/
def State.writeSlot (s : State) (slot : Nat) (q : Square) : State :=
  { s with buf := s.buf.write slot q }

end Sys2Proof.Machine
end

