-- ==== Sys2Proof/Machine/ConfigRegisters.lean ====
section
/-! DEFINITION. The configuration registers: writes under the lock of 40_host_registers.md R87, and reads (R88 to R101). -/

namespace Sys2Proof.Machine

/-- `wr RATE, v` (R88). -/
def execWrRate (v : Word) (s : State) : Host.Outcome State Fault Refusal :=
  .next (s.writeConfig fun s => { s with rate := v })

/-- `wr CHANNELS, v` (R89). -/
def execWrChannels (v : Word) (s : State) : Host.Outcome State Fault Refusal :=
  .next (s.writeConfig fun s => { s with channels := v })

/-- `wr FORMAT, v` (R90); the reserved bits are discarded. -/
def execWrFormat (v : Word) (s : State) : Host.Outcome State Fault Refusal :=
  .next (s.writeConfig fun s => { s with format := v &&& formatMask })

/-- `wr WINDOW_LO, v` (R91). -/
def execWrWindowLo (v : Word) (s : State) : Host.Outcome State Fault Refusal :=
  .next (s.writeConfig fun s => { s with windowLo := v })

/-- `wr WINDOW_HI, v` (R92). -/
def execWrWindowHi (v : Word) (s : State) : Host.Outcome State Fault Refusal :=
  .next (s.writeConfig fun s => { s with windowHi := v })

/-- `wr OBSERVE_LO, v` (R93). -/
def execWrObserveLo (v : Word) (s : State) : Host.Outcome State Fault Refusal :=
  .next (s.writeConfig fun s => { s with observeLo := v })

/-- `wr OBSERVE_HI, v` (R94). -/
def execWrObserveHi (v : Word) (s : State) : Host.Outcome State Fault Refusal :=
  .next (s.writeConfig fun s => { s with observeHi := v })

/-- `rd RATE` (R95). -/
def execRdRate (s : State) : Host.Outcome State Fault Refusal :=
  .next (s.respond .ok s.rate)

/-- `rd CHANNELS` (R96). -/
def execRdChannels (s : State) : Host.Outcome State Fault Refusal :=
  .next (s.respond .ok s.channels)

/-- `rd FORMAT` (R97). -/
def execRdFormat (s : State) : Host.Outcome State Fault Refusal :=
  .next (s.respond .ok s.format)

/-- `rd WINDOW_LO` (R98). -/
def execRdWindowLo (s : State) : Host.Outcome State Fault Refusal :=
  .next (s.respond .ok s.windowLo)

/-- `rd WINDOW_HI` (R99). -/
def execRdWindowHi (s : State) : Host.Outcome State Fault Refusal :=
  .next (s.respond .ok s.windowHi)

/-- `rd OBSERVE_LO` (R100). -/
def execRdObserveLo (s : State) : Host.Outcome State Fault Refusal :=
  .next (s.respond .ok s.observeLo)

/-- `rd OBSERVE_HI` (R101). -/
def execRdObserveHi (s : State) : Host.Outcome State Fault Refusal :=
  .next (s.respond .ok s.observeHi)

end Sys2Proof.Machine
end

