-- ==== Sys2Proof/Machine/ObservationRegisters.lean ====
section
/-! DEFINITION. The read-only observation registers (40_host_registers.md R105, R107 to R125). Reads have no side effect (20_memory.md R55). -/

namespace Sys2Proof.Machine

/-- `rd PERIOD_LO` (R107). -/
def execRdPeriodLo (s : State) : Host.Outcome State Fault Refusal :=
  .next (s.respond .ok (loWord s.P))

/-- `rd PERIOD_HI` (R108). -/
def execRdPeriodHi (s : State) : Host.Outcome State Fault Refusal :=
  .next (s.respond .ok (hiWord s.P))

/-- `rd WSAMP_LO` (R109). -/
def execRdWsampLo (s : State) : Host.Outcome State Fault Refusal :=
  .next (s.respond .ok (loWord s.N))

/-- `rd WSAMP_HI` (R110). -/
def execRdWsampHi (s : State) : Host.Outcome State Fault Refusal :=
  .next (s.respond .ok (hiWord s.N))

/-- `rd COUNT_LO` (R111). -/
def execRdCountLo (s : State) : Host.Outcome State Fault Refusal :=
  .next (s.respond .ok (loWord s.countdown))

/-- `rd COUNT_HI` (R112). -/
def execRdCountHi (s : State) : Host.Outcome State Fault Refusal :=
  .next (s.respond .ok (hiWord s.countdown))

/-- `rd FILL_LO` (R113). -/
def execRdFillLo (s : State) : Host.Outcome State Fault Refusal :=
  .next (s.respond .ok (loWord s.fill))

/-- `rd FILL_HI` (R114). -/
def execRdFillHi (s : State) : Host.Outcome State Fault Refusal :=
  .next (s.respond .ok (hiWord s.fill))

/-- `rd PEAK_LO` (R115). -/
def execRdPeakLo (s : State) : Host.Outcome State Fault Refusal :=
  .next (s.respond .ok (loWord s.peak))

/-- `rd PEAK_HI` (R116). -/
def execRdPeakHi (s : State) : Host.Outcome State Fault Refusal :=
  .next (s.respond .ok (hiWord s.peak))

/-- `rd PEND` (R117). -/
def execRdPend (s : State) : Host.Outcome State Fault Refusal :=
  .next (s.respond .ok (pendWord s.pend.length))

/-- `rd POS_LO` (R118). -/
def execRdPosLo (s : State) : Host.Outcome State Fault Refusal :=
  .next (s.respond .ok (loWord s.pos))

/-- `rd POS_HI` (R119). -/
def execRdPosHi (s : State) : Host.Outcome State Fault Refusal :=
  .next (s.respond .ok (hiWord s.pos))

/-- `rd SUM0` (R120). -/
def execRdSum0 (s : State) : Host.Outcome State Fault Refusal :=
  .next (s.respond .ok (sumWord 0 s.sum))

/-- `rd SUM1` (R121). -/
def execRdSum1 (s : State) : Host.Outcome State Fault Refusal :=
  .next (s.respond .ok (sumWord 1 s.sum))

/-- `rd SUM2` (R122). -/
def execRdSum2 (s : State) : Host.Outcome State Fault Refusal :=
  .next (s.respond .ok (sumWord 2 s.sum))

/-- `rd SUM3` (R123). -/
def execRdSum3 (s : State) : Host.Outcome State Fault Refusal :=
  .next (s.respond .ok (sumWord 3 s.sum))

/-- `rd SUM4` (R124). -/
def execRdSum4 (s : State) : Host.Outcome State Fault Refusal :=
  .next (s.respond .ok (sumWord 4 s.sum))

/-- `rd SUM5` (R125). -/
def execRdSum5 (s : State) : Host.Outcome State Fault Refusal :=
  .next (s.respond .ok (sumWord 5 s.sum))

/-- `wr PERIOD_LO, v`: read-only, no state changes (R105). -/
def execWrPeriodLo (_ : Word) (s : State) : Host.Outcome State Fault Refusal :=
  .next (s.respond .ok 0)

/-- `wr PERIOD_HI, v`: read-only, no state changes (R105). -/
def execWrPeriodHi (_ : Word) (s : State) : Host.Outcome State Fault Refusal :=
  .next (s.respond .ok 0)

/-- `wr WSAMP_LO, v`: read-only, no state changes (R105). -/
def execWrWsampLo (_ : Word) (s : State) : Host.Outcome State Fault Refusal :=
  .next (s.respond .ok 0)

/-- `wr WSAMP_HI, v`: read-only, no state changes (R105). -/
def execWrWsampHi (_ : Word) (s : State) : Host.Outcome State Fault Refusal :=
  .next (s.respond .ok 0)

/-- `wr COUNT_LO, v`: read-only, no state changes (R105). -/
def execWrCountLo (_ : Word) (s : State) : Host.Outcome State Fault Refusal :=
  .next (s.respond .ok 0)

/-- `wr COUNT_HI, v`: read-only, no state changes (R105). -/
def execWrCountHi (_ : Word) (s : State) : Host.Outcome State Fault Refusal :=
  .next (s.respond .ok 0)

/-- `wr FILL_LO, v`: read-only, no state changes (R105). -/
def execWrFillLo (_ : Word) (s : State) : Host.Outcome State Fault Refusal :=
  .next (s.respond .ok 0)

/-- `wr FILL_HI, v`: read-only, no state changes (R105). -/
def execWrFillHi (_ : Word) (s : State) : Host.Outcome State Fault Refusal :=
  .next (s.respond .ok 0)

/-- `wr PEAK_LO, v`: read-only, no state changes (R105). -/
def execWrPeakLo (_ : Word) (s : State) : Host.Outcome State Fault Refusal :=
  .next (s.respond .ok 0)

/-- `wr PEAK_HI, v`: read-only, no state changes (R105). -/
def execWrPeakHi (_ : Word) (s : State) : Host.Outcome State Fault Refusal :=
  .next (s.respond .ok 0)

/-- `wr PEND, v`: read-only, no state changes (R105). -/
def execWrPend (_ : Word) (s : State) : Host.Outcome State Fault Refusal :=
  .next (s.respond .ok 0)

/-- `wr POS_LO, v`: read-only, no state changes (R105). -/
def execWrPosLo (_ : Word) (s : State) : Host.Outcome State Fault Refusal :=
  .next (s.respond .ok 0)

/-- `wr POS_HI, v`: read-only, no state changes (R105). -/
def execWrPosHi (_ : Word) (s : State) : Host.Outcome State Fault Refusal :=
  .next (s.respond .ok 0)

/-- `wr SUM0, v`: read-only, no state changes (R105). -/
def execWrSum0 (_ : Word) (s : State) : Host.Outcome State Fault Refusal :=
  .next (s.respond .ok 0)

/-- `wr SUM1, v`: read-only, no state changes (R105). -/
def execWrSum1 (_ : Word) (s : State) : Host.Outcome State Fault Refusal :=
  .next (s.respond .ok 0)

/-- `wr SUM2, v`: read-only, no state changes (R105). -/
def execWrSum2 (_ : Word) (s : State) : Host.Outcome State Fault Refusal :=
  .next (s.respond .ok 0)

/-- `wr SUM3, v`: read-only, no state changes (R105). -/
def execWrSum3 (_ : Word) (s : State) : Host.Outcome State Fault Refusal :=
  .next (s.respond .ok 0)

/-- `wr SUM4, v`: read-only, no state changes (R105). -/
def execWrSum4 (_ : Word) (s : State) : Host.Outcome State Fault Refusal :=
  .next (s.respond .ok 0)

/-- `wr SUM5, v`: read-only, no state changes (R105). -/
def execWrSum5 (_ : Word) (s : State) : Host.Outcome State Fault Refusal :=
  .next (s.respond .ok 0)

end Sys2Proof.Machine
end

