-- ==== Sys2Proof/Machine/Reserved.lean ====
section
/-! DEFINITION. The reserved offsets (40_host_registers.md R126) and illegal headers (30_encoding.md R75). -/

namespace Sys2Proof.Machine

/-- `wr` of 0x5C: ignored (R126). -/
def execWrReserved5C (_ : Word) (s : State) : Host.Outcome State Fault Refusal :=
  .next (s.respond .ok 0)

/-- `wr` of 0x78: ignored (R126). -/
def execWrReserved78 (_ : Word) (s : State) : Host.Outcome State Fault Refusal :=
  .next (s.respond .ok 0)

/-- `wr` of 0x7C: ignored (R126). -/
def execWrReserved7C (_ : Word) (s : State) : Host.Outcome State Fault Refusal :=
  .next (s.respond .ok 0)

/-- `wr` of 0x80 to 0xFC: ignored (R126). -/
def execWrReservedHigh (_ : Byte) (_ : Word) (s : State) : Host.Outcome State Fault Refusal :=
  .next (s.respond .ok 0)

/-- `rd` of 0x5C: 0 (R126). -/
def execRdReserved5C (s : State) : Host.Outcome State Fault Refusal :=
  .next (s.respond .ok 0)

/-- `rd` of 0x78: 0 (R126). -/
def execRdReserved78 (s : State) : Host.Outcome State Fault Refusal :=
  .next (s.respond .ok 0)

/-- `rd` of 0x7C: 0 (R126). -/
def execRdReserved7C (s : State) : Host.Outcome State Fault Refusal :=
  .next (s.respond .ok 0)

/-- `rd` of 0x80 to 0xFC: 0 (R126). -/
def execRdReservedHigh (_ : Byte) (s : State) : Host.Outcome State Fault Refusal :=
  .next (s.respond .ok 0)

/-- An illegal header: the sticky fault and the response ILLEGAL, nothing else (30_encoding.md R75, 60_exceptions.md
R189). -/
def execIllegal (_ : Word) (s : State) : Host.Outcome State Fault Refusal :=
  .next (s.raiseIllegalFault.raiseError .illegal)

end Sys2Proof.Machine
end

