-- ==== Sys2Proof/Machine/StatusRegisters.lean ====
section
/-! DEFINITION. STATUS, RESULT and CTRL (40_host_registers.md R102 to R106). -/

namespace Sys2Proof.Machine

/-- `rd STATUS` (R102). -/
def execRdStatus (s : State) : Host.Outcome State Fault Refusal :=
  .next (s.respond .ok s.status)

/-- `rd RESULT` (R103). -/
def execRdResult (s : State) : Host.Outcome State Fault Refusal :=
  .next (s.respond .ok s.result)

/-- `wr CTRL, v`: bit 0 resets the block, in both phases; bits 31:1 are ignored. The response follows the reset (R104). -/
def execWrCtrl (v : Word) (s : State) : Host.Outcome State Fault Refusal :=
  .next ((if v.getLsbD 0 then s.performReset else s).respond .ok 0)

/-- `rd CTRL` reads 0 (R106). -/
def execRdCtrl (s : State) : Host.Outcome State Fault Refusal :=
  .next (s.respond .ok 0)

/-- `wr STATUS, v`: read-only, the sticky flags stay (R105). -/
def execWrStatus (_ : Word) (s : State) : Host.Outcome State Fault Refusal :=
  .next (s.respond .ok 0)

/-- `wr RESULT, v`: read-only (R105). -/
def execWrResult (_ : Word) (s : State) : Host.Outcome State Fault Refusal :=
  .next (s.respond .ok 0)

end Sys2Proof.Machine
end

