-- ==== Sys2Proof/Machine/PeakTracker.lean ====
section
/-! DEFINITION. The PeakTracker (44_peak_tracker.md). -/

namespace Sys2Proof.Machine

/-- `peakFold(s)`: the peak becomes the larger of itself and the magnitude (R164), whether or not PEAK_EN is set (R167). -/
def State.peakFold (s : State) (sample : Int) : State :=
  { s with peak := BitVec.ofNat 64 (max s.peak.toNat sample.natAbs) }

end Sys2Proof.Machine
end

