-- ==== Sys2Proof/Machine/Decibel.lean ====
section
/-! DEFINITION. The dB values of a report event as binary64 patterns: the fixed points of 45_report_scheduler.md R177 and the
freedom it leaves, and the parameters the machine runs with (00_scope.md R7). What the values approximate, in real numbers,
is in Machine/DbReference.lean. -/

namespace Sys2Proof.Machine

/-- −∞ (R177 item 1, 93 G3). -/
def doubleNegInf : Double := 0xFFF0000000000000#64

/-- +0.0 (R177 items 2 and 3). -/
def doublePosZero : Double := 0#64

/-- Neither an infinity nor a NaN: the exponent field is not all ones (IEEE 754 binary64, R79). -/
def doubleFinite (b : Double) : Bool := b.extractLsb' 52 11 != 0x7FF#11

/-- At most +0.0, for a finite pattern: the sign bit is set or the pattern is +0.0. -/
def doubleAtMostZero (b : Double) : Bool := b.msb || b == doublePosZero

/-- What R177 item 4 lets a dB value be that no other item fixes: finite, not NaN, at most +0.0. -/
def dbAdmissible (b : Double) : Bool := doubleFinite b && doubleAtMostZero b

/-- An arbitrary pattern made admissible. Every admissible pattern is left as it is, so that an arbitrary function through
this one is any function R177 item 4 allows. -/
def dbNarrow (b : Double) : Double := if dbAdmissible b then b else doublePosZero

/-- A DBFN_RMS with the fixed points of R177 items 1, 3 and 4; `free` decides the rest. -/
def dbfnRmsOf (free : Nat → Nat → Nat → Double) (sum div wsize : Nat) : Double :=
  if sum = 0 then doubleNegInf
  else if sum = div * 4 ^ (wsize - 1) then doublePosZero
  else dbNarrow (free sum div wsize)

/-- A DBFN_PEAK with the fixed points of R177 items 1, 2 and 4; `free` decides the rest. -/
def dbfnPeakOf (free : Nat → Nat → Double) (peak wsize : Nat) : Double :=
  if peak = 0 then doubleNegInf
  else if peak = 2 ^ (wsize - 1) then doublePosZero
  else dbNarrow (free peak wsize)

/-- The parameters of the machine: any MAX_CHANNELS ≥ 1, any MAX_WINDOW_SLOTS from 1 to 2^64 − 1, any DBFN with the fixed
points of R177 (R7, log entries 5 and 6). -/
def params : Config.Params where
  maxChannels := Config.maxChannelsLessOne + 1
  maxWindowSlots := Config.maxWindowSlotsFree % (2 ^ 64 - 1) + 1
  dbfnRms := dbfnRmsOf Config.rmsDbFree
  dbfnPeak := dbfnPeakOf Config.peakDbFree

end Sys2Proof.Machine
end

