-- ==== Sys2Proof/Machine/ReportScheduler.lean ====
section
/-! DEFINITION. The ReportScheduler (45_report_scheduler.md). -/

namespace Sys2Proof.Machine

/-- The events of one report: RMS before PEAK, each only if its observer is configured, with the values of the moment before
the clears (R170, R173, R178). -/
def State.reportEvents (p : Config.Params) (s : State) : List Output :=
  (if s.rmsEn then [.rmsEvent (p.dbfnRms s.sum.toNat s.fill.toNat s.wsize) s.fill s.sum] else [])
    ++ (if s.peakEn then [.peakEvent (p.dbfnPeak s.peak.toNat s.wsize) s.peak] else [])

/-- What every report clears: the peak, and in RESET mode the sum and the fill count (R171, R172). -/
def State.clearInterval (s : State) : State :=
  match s.mode with
  | .circular => { s with peak := 0 }
  | .reset => { s with peak := 0, sum := 0, fill := 0 }

/-- `report()` (R170). -/
def State.report (p : Config.Params) (s : State) : State :=
  (s.emit (s.reportEvents p)).clearInterval

/-- `schedule()`: test for zero before decrementing (R168, 90_conflicts.md C1). -/
def State.schedule (p : Config.Params) (s : State) : State :=
  if s.countdown = 0 then { s.report p with countdown := s.P }
  else { s with countdown := s.countdown - 1 }

end Sys2Proof.Machine
end

