-- ==== Sys2Proof/Machine/RollingWindow.lean ====
section
/-! DEFINITION. The RollingWindow (43_rolling_window.md): the running sum of squares. -/

namespace Sys2Proof.Machine

/-- The CIRCULAR fold (R154): in the growth phase nothing is evicted and the fill count grows (R155), in the steady phase the
slot at the cursor is evicted (R156); the cursor advances modulo `st.N` (R157). -/
def State.windowFoldCircular (s : State) (q : Square) : State :=
  let growing := s.fill < s.N
  let evicted : Square := if growing then 0 else s.readSlot s.pos.toNat
  { s.writeSlot s.pos.toNat q with
    fill := if growing then s.fill + 1 else s.fill
    pos := BitVec.ofNat 64 ((s.pos.toNat + 1) % s.N.toNat)
    sum := s.sum + q.setWidth 176 - evicted.setWidth 176 }

/-- The RESET fold (R158). -/
def State.windowFoldReset (s : State) (q : Square) : State :=
  { s with sum := s.sum + q.setWidth 176, fill := s.fill + 1 }

/-- `windowFold(q)`, by the mode (R153). -/
def State.windowFold (s : State) (q : Square) : State :=
  match s.mode with
  | .circular => s.windowFoldCircular q
  | .reset => s.windowFoldReset q

end Sys2Proof.Machine
end

