-- ==== Sys2Proof/Machine/SampleDecoder.lean ====
section
/-! DEFINITION. The SampleDecoder (42_sample_decoder.md): words to samples, bytes to frames, and the sample step. -/

namespace Sys2Proof.Machine

/-- The raw value of a word in the byte order `le` selects (R62, R144). -/
def rawOfWord (le : Bool) (word : List Byte) : Nat := if le then natLE word else natBE word

/-- The sample of a raw value: two's complement when signed (R145), offset by the bias 2^(wsize−1) when not (R146). -/
def sampleOfRaw (wsize : Nat) (signed : Bool) (raw : Nat) : Int :=
  if signed then
    if 2 ^ (wsize - 1) ≤ raw then (raw : Int) - 2 ^ wsize else raw
  else (raw : Int) - 2 ^ (wsize - 1)

/-- `decodeWord`: a pure function of the bytes, the word size, the byte order and the encoding (R143). -/
def decodeWord (wsize : Nat) (le signed : Bool) (word : List Byte) : Int :=
  sampleOfRaw wsize signed (rawOfWord le word)

/-- The square of a sample, exact for every sample of a legal format (R148). -/
def squareOf (sample : Int) : Square := BitVec.ofNat 111 (sample.natAbs * sample.natAbs)

/-- Word c of a frame: its bytes `c * B` to `c * B + B − 1` (30_encoding.md R65, R142). A frame holds them all, but where its
length does not fit 32 bits; a byte beyond the end is then a free value (log entry 8). -/
def frameWord (wordBytes : Nat) (frame : List Byte) (c : Nat) : List Byte :=
  (List.range wordBytes).map fun k =>
    frame.getD (c * wordBytes + k) (Config.byteBeyondFrame frame (c * wordBytes + k))

/-- `sampleStep(s)`: window, peak, then schedule (R152). -/
def State.sampleStep (p : Config.Params) (s : State) (sample : Int) : State :=
  ((s.windowFold (squareOf sample)).peakFold sample).schedule p

/-- The samples of a complete frame, one per channel, in channel order (R142). -/
def State.frameSamples (s : State) (frame : List Byte) : List Int :=
  (List.range s.channels.toNat).map fun c => decodeWord s.wsize s.le s.signed (frameWord s.wordBytes.toNat frame c)

/-- `decodeFrame(frame)`: each sample's step finishes before the next (R142). -/
def State.decodeFrame (p : Config.Params) (s : State) (frame : List Byte) : State :=
  (s.frameSamples frame).foldl (State.sampleStep p) s

/-- `byteStep(b)`: the byte joins the pending ones, and a completed frame is decoded (R140). -/
def State.byteStep (p : Config.Params) (s : State) (b : Byte) : State :=
  let frame := s.pend ++ [b]
  if frame.length = s.frameBytes.toNat then { s with pend := [] }.decodeFrame p frame
  else { s with pend := frame }

/-- The bytes of a payload, each once and in order (R139, R149). -/
def State.decodePayload (p : Config.Params) (s : State) (payload : List Byte) : State :=
  payload.foldl (State.byteStep p) s

end Sys2Proof.Machine
end

