-- ==== Sys2Proof/Machine/Validator.lean ====
section
/-! DEFINITION. The ConfigValidator (41_config_validator.md). -/

namespace Sys2Proof.Machine

/-- TICKS_PER_SECOND: durations are in nanoseconds (00_scope.md R7). -/
def ticksPerSecond : Nat := 1000000000

/-- `Q = floor(rate * observe / TICKS_PER_SECOND)`, the samples of a report interval (R129). -/
def State.reportSamples (s : State) : Nat := s.rate.toNat * s.observe.toNat / ticksPerSecond

/-- `floor(channels * rate * window / TICKS_PER_SECOND)`, the slots of a circular window (R130). -/
def State.windowSlots (s : State) : Nat :=
  s.channels.toNat * s.rate.toNat * s.window.toNat / ticksPerSecond

/-- The mode the durations select, compared as numbers (R134). -/
def State.selectedMode (s : State) : Mode := if s.window = s.observe then .reset else .circular

/-- The configuration is bad (R129). -/
def State.configBad (s : State) : Bool :=
  s.channels == 0
    || (s.wsize == 0 || s.wsize % 8 != 0 || 64 ≤ s.wsize)
    || s.rate == 0
    || s.reportSamples < 1

/-- A configuration that is not bad exceeds the hardware (R130). -/
def State.configUnsupported (p : Config.Params) (s : State) : Bool :=
  p.maxChannels < s.channels.toNat
    || 2 ^ 64 - 1 < s.reportSamples
    || (s.selectedMode == .circular && s.windowSlots == 0)
    || (s.selectedMode == .circular && p.maxWindowSlots < s.windowSlots)

/-- `validate()`: the checks of R129 first, then those of R130 (R131). -/
def State.validate (p : Config.Params) (s : State) : Code :=
  if s.configBad then .badParameters
  else if s.configUnsupported p then .unsupportedConfig
  else .ok

/-- `fail(c)`: the payload is discarded and the code recorded; nothing else changes (R132). -/
def State.failValidation (s : State) (code : Code) : State :=
  { s with lastCode := code, result := 0 }.raiseError code

/-- `channels * (wsize / 8)` in the 32 bits of `st.frameBytes` (R135, 10_state.md R20). Where the exact product does not fit,
which takes a MAX_CHANNELS above (2^32 − 1) / 7, the spec states no value: it is then any byte count of 1 or more
(log entry 8). -/
def frameBytesOf (channels wordBytes : Nat) : BitVec 32 :=
  if channels * wordBytes < 2 ^ 32 then BitVec.ofNat 32 (channels * wordBytes)
  else BitVec.ofNat 32 (Config.frameBytesFree channels wordBytes % (2 ^ 32 - 1) + 1)

/-- `succeed()`: the derived constants (R134, R135) and the stream state (R136). -/
def State.configure (s : State) : State :=
  { s with
    mode := s.selectedMode
    wordBytes := BitVec.ofNat 3 (s.wsize / 8)
    frameBytes := frameBytesOf s.channels.toNat (s.wsize / 8)
    wordMax := BitVec.ofNat 56 (2 ^ (s.wsize - 1))
    P := BitVec.ofNat 64 (s.reportSamples - 1)
    N := match s.selectedMode with
      | .circular => BitVec.ofNat 64 s.windowSlots
      | .reset => 0
    pend := []
    pos := 0
    fill := 0
    sum := 0
    peak := 0
    countdown := BitVec.ofNat 64 (s.reportSamples - 1)
    phase := .running }

end Sys2Proof.Machine
end

