-- ==== Sys2Proof/Machine/WriteTransaction.lean ====
section
/-! DEFINITION. The WRITE transaction (42_sample_decoder.md R139). -/

namespace Sys2Proof.Machine

/-- The part of a WRITE after validation: the payload is decoded, LEN and OK are recorded and answered (R139, R150). -/
def State.acceptPayload (p : Config.Params) (s : State) (payload : List Byte) : State :=
  let len := BitVec.ofNat 32 payload.length
  { s.decodePayload p payload with result := len, lastCode := .ok }.respond .ok len

/-- `write [b_0 … b_(LEN−1)]` for any parameters: in UNCONFIGURED it validates first and a failure discards the payload; in
RUNNING it never fails (R128, R132, R139, R150). -/
def State.writeTransaction (p : Config.Params) (s : State) (payload : List Byte) : State :=
  match s.phase with
  | .running => s.acceptPayload p payload
  | .unconfigured =>
    match s.validate p with
    | .ok => s.configure.acceptPayload p payload
    | code => s.failValidation code

/-- The meaning of a WRITE, with the machine's parameters (R139). -/
def execWrite (payload : List Byte) (s : State) : Host.Outcome State Fault Refusal :=
  .next (s.writeTransaction params payload)

end Sys2Proof.Machine
end

