-- ==== Sys2Proof/Machine/Dispatch.lean ====
section
/-! DEFINITION. The meaning of every transaction, one arm per constructor. -/

namespace Sys2Proof.Machine

def exec (i : Instr) (s : State) : Host.Outcome State Fault Refusal :=
  match i with
  | .wrRate v => Sys2Proof.Machine.execWrRate v s
  | .wrChannels v => Sys2Proof.Machine.execWrChannels v s
  | .wrFormat v => Sys2Proof.Machine.execWrFormat v s
  | .wrWindowLo v => Sys2Proof.Machine.execWrWindowLo v s
  | .wrWindowHi v => Sys2Proof.Machine.execWrWindowHi v s
  | .wrObserveLo v => Sys2Proof.Machine.execWrObserveLo v s
  | .wrObserveHi v => Sys2Proof.Machine.execWrObserveHi v s
  | .wrStatus v => Sys2Proof.Machine.execWrStatus v s
  | .wrResult v => Sys2Proof.Machine.execWrResult v s
  | .wrCtrl v => Sys2Proof.Machine.execWrCtrl v s
  | .wrPeriodLo v => Sys2Proof.Machine.execWrPeriodLo v s
  | .wrPeriodHi v => Sys2Proof.Machine.execWrPeriodHi v s
  | .wrWsampLo v => Sys2Proof.Machine.execWrWsampLo v s
  | .wrWsampHi v => Sys2Proof.Machine.execWrWsampHi v s
  | .wrCountLo v => Sys2Proof.Machine.execWrCountLo v s
  | .wrCountHi v => Sys2Proof.Machine.execWrCountHi v s
  | .wrFillLo v => Sys2Proof.Machine.execWrFillLo v s
  | .wrFillHi v => Sys2Proof.Machine.execWrFillHi v s
  | .wrPeakLo v => Sys2Proof.Machine.execWrPeakLo v s
  | .wrPeakHi v => Sys2Proof.Machine.execWrPeakHi v s
  | .wrPend v => Sys2Proof.Machine.execWrPend v s
  | .wrPosLo v => Sys2Proof.Machine.execWrPosLo v s
  | .wrPosHi v => Sys2Proof.Machine.execWrPosHi v s
  | .wrSum0 v => Sys2Proof.Machine.execWrSum0 v s
  | .wrSum1 v => Sys2Proof.Machine.execWrSum1 v s
  | .wrSum2 v => Sys2Proof.Machine.execWrSum2 v s
  | .wrSum3 v => Sys2Proof.Machine.execWrSum3 v s
  | .wrSum4 v => Sys2Proof.Machine.execWrSum4 v s
  | .wrSum5 v => Sys2Proof.Machine.execWrSum5 v s
  | .wrReserved5C v => Sys2Proof.Machine.execWrReserved5C v s
  | .wrReserved78 v => Sys2Proof.Machine.execWrReserved78 v s
  | .wrReserved7C v => Sys2Proof.Machine.execWrReserved7C v s
  | .wrReservedHigh off v => Sys2Proof.Machine.execWrReservedHigh off v s
  | .rdRate => Sys2Proof.Machine.execRdRate s
  | .rdChannels => Sys2Proof.Machine.execRdChannels s
  | .rdFormat => Sys2Proof.Machine.execRdFormat s
  | .rdWindowLo => Sys2Proof.Machine.execRdWindowLo s
  | .rdWindowHi => Sys2Proof.Machine.execRdWindowHi s
  | .rdObserveLo => Sys2Proof.Machine.execRdObserveLo s
  | .rdObserveHi => Sys2Proof.Machine.execRdObserveHi s
  | .rdStatus => Sys2Proof.Machine.execRdStatus s
  | .rdResult => Sys2Proof.Machine.execRdResult s
  | .rdCtrl => Sys2Proof.Machine.execRdCtrl s
  | .rdPeriodLo => Sys2Proof.Machine.execRdPeriodLo s
  | .rdPeriodHi => Sys2Proof.Machine.execRdPeriodHi s
  | .rdWsampLo => Sys2Proof.Machine.execRdWsampLo s
  | .rdWsampHi => Sys2Proof.Machine.execRdWsampHi s
  | .rdCountLo => Sys2Proof.Machine.execRdCountLo s
  | .rdCountHi => Sys2Proof.Machine.execRdCountHi s
  | .rdFillLo => Sys2Proof.Machine.execRdFillLo s
  | .rdFillHi => Sys2Proof.Machine.execRdFillHi s
  | .rdPeakLo => Sys2Proof.Machine.execRdPeakLo s
  | .rdPeakHi => Sys2Proof.Machine.execRdPeakHi s
  | .rdPend => Sys2Proof.Machine.execRdPend s
  | .rdPosLo => Sys2Proof.Machine.execRdPosLo s
  | .rdPosHi => Sys2Proof.Machine.execRdPosHi s
  | .rdSum0 => Sys2Proof.Machine.execRdSum0 s
  | .rdSum1 => Sys2Proof.Machine.execRdSum1 s
  | .rdSum2 => Sys2Proof.Machine.execRdSum2 s
  | .rdSum3 => Sys2Proof.Machine.execRdSum3 s
  | .rdSum4 => Sys2Proof.Machine.execRdSum4 s
  | .rdSum5 => Sys2Proof.Machine.execRdSum5 s
  | .rdReserved5C => Sys2Proof.Machine.execRdReserved5C s
  | .rdReserved78 => Sys2Proof.Machine.execRdReserved78 s
  | .rdReserved7C => Sys2Proof.Machine.execRdReserved7C s
  | .rdReservedHigh off => Sys2Proof.Machine.execRdReservedHigh off s
  | .write payload => Sys2Proof.Machine.execWrite payload s
  | .illegal header => Sys2Proof.Machine.execIllegal header s

end Sys2Proof.Machine
end

