-- ==== Sys2Proof/Machine/Fetch.lean ====
section
/-! DEFINITION. Reading the next transaction from what the host has sent (30_encoding.md R71, 70_reset_and_hazards.md R204,
R213). -/

namespace Sys2Proof.Machine

/-- The bytes the host has sent before its next hardware reset, and what follows them. -/
def leadingBytes : List HostItem → List Byte × List HostItem
  | .byte b :: items =>
    let (bytes, rest) := leadingBytes items
    (b :: bytes, rest)
  | items => ([], items)

/-- What the block does next. -/
inductive Fetched where
  /-- A whole transaction has come; `input` is what the host has sent after it. -/
  | transaction (i : Instr) (input : List HostItem)
  /-- The hardware reset comes before the transaction is whole; its bytes are discarded (R204). -/
  | hardwareReset (input : List HostItem)
  /-- Nothing has come (R205). -/
  | idle
  /-- A transaction has begun and the host has not sent the rest (R213). -/
  | waiting
  deriving DecidableEq, Repr

/-- The parser is at the start of a header; it takes one transaction, or the reset that cuts it short. -/
def fetch (input : List HostItem) : Fetched :=
  let (bytes, after) := leadingBytes input
  match decode bytes with
  | .ok (i, rest) => .transaction i (rest.map .byte ++ after)
  | .error _ =>
    match after with
    | .reset :: input => .hardwareReset input
    | _ => if bytes.isEmpty then .idle else .waiting

/-- The state in which the host has sent exactly these bytes ahead of everything it had sent before. -/
def State.sendFirst (s : State) (bytes : List Byte) : State :=
  { s with input := bytes.map .byte ++ s.input }

end Sys2Proof.Machine
end

