-- ==== Sys2Proof/Machine/Step.lean ====
section
/-! DEFINITION. One atomic step of the block: one host transaction (00_scope.md R3, R12) or one hardware reset
(70_reset_and_hazards.md R203). -/

namespace Sys2Proof.Machine

/-- Takes the next transaction and performs it; a hardware reset resets the block and sends no response (R204). Where the
host has sent no whole transaction the block waits (60_exceptions.md R202, log entry 2). -/
def step (s : State) : Host.Outcome State Fault Refusal :=
  match fetch s.input with
  | .transaction i input => exec i { s with input := input }
  | .hardwareReset input => .next { s with input := input }.performReset
  | .idle => .fault .idle
  | .waiting => .fault .awaitingBytes

/-- The state in which the host has sent the transaction of an opcode-table word first (log entry 1). -/
def State.withFetchWord (s : State) (nbits w : Nat) : State :=
  s.sendFirst (tableTransaction nbits w)

end Sys2Proof.Machine
end

