-- ==== Sys2Proof/Machine/DbReference.lean ====
section
/-! DEFINITION. What the dB values of a report stand for, in real numbers (45_report_scheduler.md R174 to R176), and the
reference choice of DBFN (R177, 92_eei_decisions.md D32). The machine does not use these: R177 leaves DBFN open, and a claim
about dB bits names the property of DBFN it needs. -/

namespace Sys2Proof.Machine

/-- `x` is the RMS dB value: `10 * log10(sqrt(sum / div) / wordMax)` with `wordMax = 2^(wsize−1)`, and −∞ for a zero sum
(R174, factor 10 by R176). -/
def IsRmsDb (sum div wsize : Nat) (x : EReal) : Prop :=
  (sum = 0 ∧ x = ⊥) ∨
    (0 < sum ∧ x = ((10 * Real.logb 10 (Real.sqrt ((sum : ℝ) / div) / 2 ^ (wsize - 1)) : ℝ) : EReal))

/-- `x` is the peak dB value: `10 * log10(peak / wordMax)`, and −∞ for a zero peak (R175, factor 10 by R176). -/
def IsPeakDb (peak wsize : Nat) (x : EReal) : Prop :=
  (peak = 0 ∧ x = ⊥) ∨ (0 < peak ∧ x = ((10 * Real.logb 10 ((peak : ℝ) / 2 ^ (wsize - 1)) : ℝ) : EReal))

/-- The number a finite binary64 pattern encodes: sign, exponent biased by 1023, 52 fraction bits (93 G1). -/
def doubleValue (b : Double) : ℚ :=
  let exponent := (b.extractLsb' 52 11).toNat
  let fraction := (b.extractLsb' 0 52).toNat
  let magnitude : ℚ :=
    if exponent = 0 then fraction * (2 : ℚ) ^ (-1074 : ℤ)
    else (2 ^ 52 + fraction) * (2 : ℚ) ^ ((exponent : ℤ) - 1075)
  if b.msb then -magnitude else magnitude

/-- `b` is the binary64 value nearest to `x`, ties to the even fraction; −∞ is encoded by itself (R177). -/
def IsNearestDouble (x : EReal) (b : Double) : Prop :=
  (x = ⊥ ∧ b = doubleNegInf) ∨
    ∃ r : ℝ, x = (r : EReal) ∧ doubleFinite b = true ∧
      ∀ c : Double, doubleFinite c = true → doubleValue c ≠ doubleValue b →
        |(doubleValue b : ℝ) - r| < |(doubleValue c : ℝ) - r| ∨
        (|(doubleValue b : ℝ) - r| = |(doubleValue c : ℝ) - r| ∧ b.getLsbD 0 = false)

/-- The parameters use the reference rounding on the values of R174 and R175 that a report can have (R177, D32). -/
def UsesReferenceDb (p : Config.Params) : Prop :=
  (∀ sum div wsize x, 0 < div → sum ≤ div * 4 ^ (wsize - 1) → IsRmsDb sum div wsize x →
    IsNearestDouble x (p.dbfnRms sum div wsize)) ∧
  (∀ peak wsize x, peak ≤ 2 ^ (wsize - 1) → IsPeakDb peak wsize x → IsNearestDouble x (p.dbfnPeak peak wsize))

end Sys2Proof.Machine
end

