-- ==== Sys2Proof/Machine/Pseudo.lean ====
section
/-! DEFINITION. The pseudo-transactions of the text syntax and their expansions (30_encoding.md R81). -/

namespace Sys2Proof.Machine

/-- `wr64 WINDOW, d`: the low half, then the high half. -/
def wr64Window (d : Wide) : List Instr := [.wrWindowLo (loWord d), .wrWindowHi (hiWord d)]

/-- `wr64 OBSERVE, d`: the low half, then the high half. -/
def wr64Observe (d : Wide) : List Instr := [.wrObserveLo (loWord d), .wrObserveHi (hiWord d)]

/-- `rd64 PERIOD`. -/
def rd64Period : List Instr := [.rdPeriodLo, .rdPeriodHi]

/-- `rd64 WSAMP`. -/
def rd64Wsamp : List Instr := [.rdWsampLo, .rdWsampHi]

/-- `rd64 COUNT`. -/
def rd64Count : List Instr := [.rdCountLo, .rdCountHi]

/-- `rd64 FILL`. -/
def rd64Fill : List Instr := [.rdFillLo, .rdFillHi]

/-- `rd64 PEAK`. -/
def rd64Peak : List Instr := [.rdPeakLo, .rdPeakHi]

/-- `rd64 POS`. -/
def rd64Pos : List Instr := [.rdPosLo, .rdPosHi]

/-- The FORMAT word of `cfg`: `w + 256*e + 512*g + 65536*a + 131072*p`. -/
def cfgFormat (wsize : Byte) (le signed rms peak : Bool) : Word :=
  BitVec.ofNat 32 (wsize.toNat + 256 * le.toNat + 512 * signed.toNat + 65536 * rms.toNat + 131072 * peak.toNat)

/-- `cfg`: seven REG_WRITE transactions, durations in ns. -/
def cfg (rate channels : Word) (wsize : Byte) (le signed : Bool) (window observe : Wide) (rms peak : Bool) : List Instr :=
  [.wrRate rate, .wrChannels channels, .wrFormat (cfgFormat wsize le signed rms peak)]
    ++ wr64Window window ++ wr64Observe observe

/-- `softreset`. -/
def softReset : List Instr := [.wrCtrl 1]

end Sys2Proof.Machine
end

