-- ==== Sys2Proof/Safety.lean ====
section
/-! DEFINITION. What counts as a sound state of PCMCORE (the invariants of 10_state.md R32) and the terms the claims use: reset
values, frames, and the reference meaning of a stream of samples, written from the samples alone. -/

namespace Sys2Proof.Machine

/-! ## Parameters -/

/-- The ranges of R7 and the fixed points of R177. -/
structure LegalParams (p : Config.Params) : Prop where
  maxChannels : 1 ≤ p.maxChannels
  maxWindowSlots_pos : 1 ≤ p.maxWindowSlots
  maxWindowSlots_le : p.maxWindowSlots ≤ 2 ^ 64 - 1
  rms_zero : ∀ div w, p.dbfnRms 0 div w = doubleNegInf
  peak_zero : ∀ w, p.dbfnPeak 0 w = doubleNegInf
  peak_full : ∀ w, p.dbfnPeak (2 ^ (w - 1)) w = doublePosZero
  rms_full : ∀ div w, 0 < div → p.dbfnRms (div * 4 ^ (w - 1)) div w = doublePosZero
  rms_other : ∀ sum div w, sum ≠ 0 → dbAdmissible (p.dbfnRms sum div w) = true
  peak_other : ∀ peak w, peak ≠ 0 → dbAdmissible (p.dbfnPeak peak w) = true

/-! ## Reset values and frames -/

/-- The stream state and the derived constants hold their reset values (10_state.md R20 to R28, R35); no slot of the buffer
is written (R23). -/
structure StreamAtReset (s : State) : Prop where
  mode : s.mode = .circular
  frameBytes : s.frameBytes = 0
  wordBytes : s.wordBytes = 0
  wordMax : s.wordMax = 0
  N : s.N = 0
  P : s.P = 0
  pend : s.pend = []
  buf : s.buf = []
  pos : s.pos = 0
  fill : s.fill = 0
  sum : s.sum = 0
  peak : s.peak = 0
  countdown : s.countdown = 0

/-- Every piece of state holds its reset value (10_state.md R35). -/
structure AllAtReset (s : State) : Prop where
  rate : s.rate = 0
  channels : s.channels = 0
  format : s.format = 0
  windowLo : s.windowLo = 0
  windowHi : s.windowHi = 0
  observeLo : s.observeLo = 0
  observeHi : s.observeHi = 0
  phase : s.phase = .unconfigured
  stream : StreamAtReset s
  lastCode : s.lastCode = .ok
  lockFault : s.lockFault = false
  illegalFault : s.illegalFault = false
  result : s.result = 0

/-- The seven configuration registers are the same. -/
structure SameConfig (s t : State) : Prop where
  rate : t.rate = s.rate
  channels : t.channels = s.channels
  format : t.format = s.format
  windowLo : t.windowLo = s.windowLo
  windowHi : t.windowHi = s.windowHi
  observeLo : t.observeLo = s.observeLo
  observeHi : t.observeHi = s.observeHi

/-- The derived constants are the same (10_state.md R20). -/
structure SameDerived (s t : State) : Prop where
  mode : t.mode = s.mode
  frameBytes : t.frameBytes = s.frameBytes
  wordBytes : t.wordBytes = s.wordBytes
  wordMax : t.wordMax = s.wordMax
  N : t.N = s.N
  P : t.P = s.P

/-- The mutable stream state is the same, every slot of the buffer included (10_state.md R21). -/
structure SameStream (s t : State) : Prop where
  pend : t.pend = s.pend
  buf : t.buf = s.buf
  slots : ∀ slot, t.readSlot slot = s.readSlot slot
  pos : t.pos = s.pos
  fill : t.fill = s.fill
  sum : t.sum = s.sum
  peak : t.peak = s.peak
  countdown : t.countdown = s.countdown

/-! ## The checks of the configuration, in the numbers the registers hold -/

/-- WSIZE, FORMAT[7:0], as a number. -/
def wordSizeNumber (s : State) : Nat := s.format.toNat % 256

/-- The window duration in ns, from its two halves. -/
def windowNumber (s : State) : Nat := s.windowHi.toNat * 2 ^ 32 + s.windowLo.toNat

/-- The observe duration in ns, from its two halves. -/
def observeNumber (s : State) : Nat := s.observeHi.toNat * 2 ^ 32 + s.observeLo.toNat

/-- `Q = floor(rate * observe / 10^9)`. -/
def intervalNumber (s : State) : Nat := s.rate.toNat * observeNumber s / 10 ^ 9

/-- `floor(channels * rate * window / 10^9)`. -/
def windowSlotsNumber (s : State) : Nat := s.channels.toNat * s.rate.toNat * windowNumber s / 10 ^ 9

/-- The configuration is bad: one of the four items of 41_config_validator.md R129 holds. -/
def BadConfiguration (s : State) : Prop :=
  s.channels.toNat = 0
    ∨ (wordSizeNumber s = 0 ∨ wordSizeNumber s % 8 ≠ 0 ∨ 64 ≤ wordSizeNumber s)
    ∨ s.rate.toNat = 0
    ∨ intervalNumber s < 1

/-- The configuration exceeds the hardware: one of the four items of 41_config_validator.md R130 holds. -/
def ExceedsHardware (p : Config.Params) (s : State) : Prop :=
  p.maxChannels < s.channels.toNat
    ∨ 2 ^ 64 - 1 < intervalNumber s
    ∨ (windowNumber s ≠ observeNumber s ∧ windowSlotsNumber s = 0)
    ∨ (windowNumber s ≠ observeNumber s ∧ p.maxWindowSlots < windowSlotsNumber s)

/-- The header is illegal: one of the four items of 30_encoding.md R75 holds of its number. -/
def IllegalHeaderNumber (n : Nat) : Prop :=
  (n / 2 ^ 28 = 0 ∨ 4 ≤ n / 2 ^ 28)
    ∨ ((n / 2 ^ 28 = 1 ∨ n / 2 ^ 28 = 2) ∧ n / 2 ^ 8 % 2 ^ 20 ≠ 0)
    ∨ ((n / 2 ^ 28 = 1 ∨ n / 2 ^ 28 = 2) ∧ n % 4 ≠ 0)
    ∨ (n / 2 ^ 28 = 3 ∧ n % 2 ^ 28 ≠ 0)

/-! ## The layout of messages -/

/-- The `n` bytes of a number, least significant byte first (20_memory.md R49): byte k is bits 8k+7:8k. -/
def littleEndian (n v : Nat) : List Byte := (List.range n).map fun k => BitVec.ofNat 8 (v / 2 ^ (8 * k))

/-! ## Shapes of register transactions -/

/-- The transaction is the REG_READ with this header, and it answers OK with `value` and changes nothing else. -/
def ReadsRegister (i : Instr) (header : Word) (value : State → Word) : Prop :=
  encode i = bytesOfWord header ∧
    ∀ s, exec i s = .next { s with out := s.out ++ [.response .ok (value s)] }

/-- The transaction is the REG_WRITE with this header, and it answers OK and changes nothing else, in both phases. -/
def IgnoresWrite (i : Word → Instr) (header : Word) : Prop :=
  ∀ v, encode (i v) = bytesOfWord header ++ bytesOfWord v ∧
    ∀ s, exec (i v) s = .next { s with out := s.out ++ [.response .ok 0] }

/-- The transaction is the REG_WRITE with this header; in UNCONFIGURED it has the effect `store` and answers OK, in RUNNING
it is refused by the configuration lock (40_host_registers.md R87). -/
def WritesUnderLock (i : Word → Instr) (header : Word) (store : Word → State → State) : Prop :=
  ∀ v, encode (i v) = bytesOfWord header ++ bytesOfWord v ∧
    (∀ s, s.phase = .unconfigured →
      exec (i v) s = .next { store v s with out := s.out ++ [.response .ok 0] }) ∧
    (∀ s, s.phase = .running →
      exec (i v) s = .next { s with lockFault := true, out := s.out ++ [.response .configLocked 0] })

/-- A `wr CTRL` that asks for the soft reset (R104). -/
def isSoftReset : Instr → Bool
  | .wrCtrl v => v.getLsbD 0
  | _ => false

/-- A WRITE transaction (R69). -/
def isWrite : Instr → Bool
  | .write _ => true
  | _ => false

/-- An illegal header, as the decoder makes it (R75). -/
def isIllegalHeader : Instr → Bool
  | .illegal _ => true
  | _ => false

/-- A REG_READ: a header alone, legal, of TYPE 2 (R68, R72). -/
def isRegRead (i : Instr) : Bool :=
  !isIllegalHeader i && (encode i).length == 4 && (encode i)[3]? == some 0x20#8

/-- A REG_WRITE to one of the seven configuration registers (R87). -/
def isConfigWrite : Instr → Bool
  | .wrRate _ | .wrChannels _ | .wrFormat _ | .wrWindowLo _ | .wrWindowHi _ | .wrObserveLo _ | .wrObserveHi _ => true
  | _ => false

/-! ## The invariant -/

/-- In RUNNING the configuration is valid and the derived constants are those of 41_config_validator.md R134 and R135. A frame
is never empty (R32 item 1; by log entry 8 where R135's product does not fit 32 bits). -/
structure Configured (p : Config.Params) (s : State) : Prop where
  valid : s.validate p = .ok
  mode : s.mode = s.selectedMode
  wordBytes : s.wordBytes.toNat = s.wsize / 8
  frameBytes_pos : 0 < s.frameBytes.toNat
  frameBytes : s.channels.toNat * (s.wsize / 8) < 2 ^ 32 → s.frameBytes.toNat = s.channels.toNat * (s.wsize / 8)
  wordMax : s.wordMax.toNat = 2 ^ (s.wsize - 1)
  period : s.P.toNat + 1 = s.reportSamples
  slots : s.N.toNat = match s.mode with | .circular => s.windowSlots | .reset => 0

/-- 10_state.md R32 item 2, as far as it does not speak of the history, and R161: exactly the first `st.fill` slots are
written, the sum is the sum of the squares they hold, and each is the square of a sample the format can give. -/
structure CircularInv (s : State) : Prop where
  fill_le : s.fill.toNat ≤ s.N.toNat
  pos_lt : s.pos.toNat < s.N.toNat
  growth : s.fill.toNat < s.N.toNat → s.pos = s.fill
  slots : s.buf.map Prod.fst = List.range s.fill.toNat
  squares : ∀ e ∈ s.buf, e.2.toNat ≤ s.wordMax.toNat ^ 2
  sum : s.sum.toNat = (s.buf.map fun e => e.2.toNat).sum

/-- 10_state.md R32 item 3, as far as it does not speak of the history: the fill count mirrors the countdown, and no slot is
used. -/
structure ResetInv (s : State) : Prop where
  fill : s.fill.toNat + s.countdown.toNat = s.P.toNat
  pos : s.pos = 0
  buf : s.buf = []
  sum : s.sum.toNat ≤ s.fill.toNat * s.wordMax.toNat ^ 2

/-- 10_state.md R32 for a state in RUNNING. -/
structure RunningInv (p : Config.Params) (s : State) : Prop where
  configured : Configured p s
  pend : s.pend.length < s.frameBytes.toNat
  countdown : s.countdown.toNat ≤ s.P.toNat
  peak : s.peak.toNat ≤ s.wordMax.toNat
  lastCode : s.lastCode = .ok
  circular : s.mode = .circular → CircularInv s
  reset : s.mode = .reset → ResetInv s

/-- The invariant of the machine: R32, the reserved bits of FORMAT read 0 (30_encoding.md R74), LASTCODE is a code of a WRITE
(40_host_registers.md R102), and the buffer is in canonical form. -/
structure Inv (p : Config.Params) (s : State) : Prop where
  reserved : s.format &&& ~~~formatMask = 0
  lastCode : s.lastCode ≠ .configLocked ∧ s.lastCode ≠ .illegal
  buf : s.buf.wf
  unconfigured : s.phase = .unconfigured → StreamAtReset s
  running : s.phase = .running → RunningInv p s

/-! ## The reference meaning of a stream of samples -/

/-- The last `n` of the samples so far, all of them if there are fewer. -/
def recent (n : Nat) (samples : List Int) : List Int := samples.drop (samples.length - n)

/-- The sum of the squares. -/
def sumOfSquares (samples : List Int) : Nat := (samples.map fun x => x.natAbs ^ 2).sum

/-- The largest magnitude, 0 if there is none. -/
def largestMagnitude (samples : List Int) : Nat := samples.foldl (fun m x => max m x.natAbs) 0

/-- The samples one report averages, out of those decoded so far (43_rolling_window.md R159, R160): the last `N` in CIRCULAR
mode, those since the report before in RESET mode. -/
def averaged (s : State) (soFar : List Int) : List Int :=
  match s.mode with
  | .circular => recent s.N.toNat soFar
  | .reset => recent (s.P.toNat + 1) soFar

/-- The events of the report that fires after the samples `soFar` (45_report_scheduler.md R170, R174, R178, R181), computed
from the samples alone; of the state only the configuration and the derived constants are read. -/
def referenceReport (p : Config.Params) (s : State) (soFar : List Int) : List Output :=
  let window := averaged s soFar
  let sum := sumOfSquares window
  let peak := largestMagnitude (recent (s.P.toNat + 1) soFar)
  (if s.rmsEn then
    [.rmsEvent (p.dbfnRms sum window.length s.wsize) (BitVec.ofNat 64 window.length) (BitVec.ofNat 176 sum)] else [])
    ++ (if s.peakEn then [.peakEvent (p.dbfnPeak peak s.wsize) (BitVec.ofNat 64 peak)] else [])

/-- All report events of a stream: one report after every `P + 1` samples (R181). -/
def referenceEvents (p : Config.Params) (s : State) (samples : List Int) : List Output :=
  (List.range (samples.length / (s.P.toNat + 1))).flatMap fun k =>
    referenceReport p s (samples.take ((k + 1) * (s.P.toNat + 1)))

/-- The sample steps of a list of samples, in order. -/
def State.sampleSteps (p : Config.Params) (s : State) (samples : List Int) : State :=
  samples.foldl (State.sampleStep p) s

/-- The stream state at the start of RUNNING (41_config_validator.md R136); the buffer may hold anything (R23). -/
structure StreamStart (s : State) : Prop where
  pend : s.pend = []
  pos : s.pos = 0
  fill : s.fill = 0
  sum : s.sum = 0
  peak : s.peak = 0
  countdown : s.countdown = s.P

/-- A sample some format can give: its magnitude is at most 2^55 (42_sample_decoder.md R147). -/
def IsSample (x : Int) : Prop := x.natAbs ≤ 2 ^ 55

/-- 10_state.md R32 items 2 to 5 with the history they speak of: `samples` are those decoded since the start of RUNNING, and
`before` is what had been sent until then. In CIRCULAR mode the window holds the squares of the most recent min(T, N) samples,
in RESET mode the sum and the fill count are those of the samples since the last report; the countdown and the peak are those of
the cadence (45_report_scheduler.md R181), and what has been sent since is the reference events. -/
structure HoldsHistory (p : Config.Params) (before : List Output) (s : State) (samples : List Int) : Prop where
  inRange : ∀ x ∈ samples, IsSample x
  period : s.P.toNat + 1 < 2 ^ 64
  countdown : s.countdown.toNat = s.P.toNat - samples.length % (s.P.toNat + 1)
  peak : s.peak.toNat = largestMagnitude (recent (samples.length % (s.P.toNat + 1)) samples)
  circular : s.mode = .circular → 0 < s.N.toNat ∧ s.fill.toNat = min samples.length s.N.toNat ∧
    s.pos.toNat = samples.length % s.N.toNat ∧ s.sum.toNat = sumOfSquares (recent s.N.toNat samples) ∧
    ∀ i x, samples[i]? = some x → samples.length ≤ i + s.N.toNat → (s.readSlot (i % s.N.toNat)).toNat = x.natAbs ^ 2
  reset : s.mode = .reset → s.fill.toNat = samples.length % (s.P.toNat + 1) ∧ s.pos = 0 ∧
    s.sum.toNat = sumOfSquares (recent (samples.length % (s.P.toNat + 1)) samples)
  sent : s.out = before ++ referenceEvents p s samples

/-- The bytes of a stream cut into its complete frames, and the samples of those frames in order (30_encoding.md R65,
42_sample_decoder.md R141). -/
def State.streamSamples (s : State) (bytes : List Byte) : List Int :=
  (List.range (bytes.length / s.frameBytes.toNat)).flatMap fun f =>
    s.frameSamples ((bytes.drop (f * s.frameBytes.toNat)).take s.frameBytes.toNat)

end Sys2Proof.Machine
end

