-- ==== Sys2Proof/Certificates/Slice0/Obligations.lean ====
section
/-! DEFINITION. The statements for the provers, from the numbered rules of spec/. -/

open Sys2Proof Sys2Proof.Machine

/-! ## Reset, waiting, and the step -/

/-- 70_reset_and_hazards.md R203: a hardware reset and a soft reset set every piece of state to its reset value. -/
def Obligations.EveryResetSetsEveryResetValue : Prop :=
  AllAtReset State.reset ∧
  (∀ (s : State) (v : Word), v.getLsbD 0 = true → ∃ t, exec (.wrCtrl v) s = .next t ∧ AllAtReset t) ∧
  (∀ (s : State) (bytes : List Byte) (e : Incomplete) (after : List HostItem), decode bytes = .error e →
    s.input = bytes.map .byte ++ .reset :: after → ∃ t, step s = .next t ∧ AllAtReset t)

/-- R204: a hardware reset discards a partly received transaction and sends no response for it, and the next byte starts a
header; a soft reset has its own response and leaves what the host has sent after it. -/
def Obligations.HardwareResetDiscardsAPartTransaction : Prop :=
  (∀ (s : State) (bytes : List Byte) (e : Incomplete) (after : List HostItem), decode bytes = .error e →
    s.input = bytes.map .byte ++ .reset :: after → ∃ t, step s = .next t ∧ t.input = after ∧ t.out = s.out) ∧
  (∀ (s : State) (v : Word), v.getLsbD 0 = true →
    ∃ t, exec (.wrCtrl v) s = .next t ∧ t.input = s.input ∧ t.out = s.out ++ [.response .ok 0])

/-- When the host has sent a whole transaction, the step is that transaction's meaning on the state that has consumed exactly
its bytes (00_scope.md R3, 30_encoding.md R71). -/
def Obligations.StepRunsTheTransactionSent : Prop :=
  ∀ (i : Instr) (s : State) (after : List HostItem), i.wf = true →
    s.input = (encode i).map .byte ++ after → step s = exec i { s with input := after }

/-- While bytes of a transaction are missing the block takes no step: it is idle before the first byte and waits after it
(60_exceptions.md R202, 70_reset_and_hazards.md R213; the two names are the model's, log entry 2). -/
def Obligations.StepWaitsForMissingBytes : Prop :=
  ∀ (s : State) (bytes : List Byte) (e : Incomplete), decode bytes = .error e → s.input = bytes.map .byte →
    step s = .fault (if bytes = [] then .idle else .awaitingBytes)

/-- R206: the reset configuration has no channel, no word size and no rate, each of which is bad, and a WRITE sent right after a
reset, whatever was sent before it, answers (BAD_PARAMETERS, 0). -/
def Obligations.FirstWriteAfterResetIsBad : Prop :=
  (∀ s : State, s.channels.toNat = 0 ∨ wordSizeNumber s = 0 ∨ s.rate.toNat = 0 → s.configBad = true) ∧
  State.reset.channels.toNat = 0 ∧ wordSizeNumber State.reset = 0 ∧ State.reset.rate.toNat = 0 ∧
  ∀ (s : State) (payload : List Byte), AllAtReset s →
    exec (.write payload) s = .next { s with lastCode := .badParameters, out := s.out ++ [.response .badParameters 0] }

/-! ## Encodings -/

/-- Decoding the bytes of a well-formed transaction gives it back and leaves what follows it, for every constructor and
every operand (R66 to R72, R82). -/
def Obligations.DecodeGivesBackEveryEncodedTransaction : Prop :=
  ∀ (i : Instr) (rest : List Byte), i.wf = true → decode (encode i ++ rest) = .ok (i, rest)

/-- What the decoder accepts is a well-formed transaction, and the bytes it took are exactly that transaction's: no bit of the
channel is dropped. -/
def Obligations.EveryDecodedTransactionIsItsBytes : Prop :=
  ∀ (i : Instr) (bytes rest : List Byte), decode bytes = .ok (i, rest) → i.wf = true ∧ bytes = encode i ++ rest

/-- No transaction is complete before its last byte (R71, R213). -/
def Obligations.ProperPrefixesAreIncomplete : Prop :=
  ∀ (i : Instr) (n : Nat), i.wf = true → n < (encode i).length → ∃ e, decode ((encode i).take n) = .error e

/-- R75: exactly the headers with a reserved TYPE, a nonzero ZERO field, an unaligned offset, or a WRITE header other than
0x30000000 are decoded as illegal; they consume their four bytes, set the sticky fault and answer ILLEGAL, and no other state
changes. -/
def Obligations.HeadersAreIllegalExactlyAsListed : Prop :=
  ∀ (h : Word) (rest : List Byte),
    (IllegalHeaderNumber h.toNat ↔ decode (bytesOfWord h ++ rest) = .ok (.illegal h, rest)) ∧
    ∀ s : State, exec (.illegal h) s =
      .next { s with illegalFault := true, out := s.out ++ [.response .illegal 0] }

/-- A few transactions of 95_test_vectors.md section 2.1 and 3, written out byte by byte, decode to what they stand for. -/
def Obligations.WrittenOutTransactionsDecode : Prop :=
  decode [0x00, 0x00, 0x00, 0x10, 0x44, 0xAC, 0x00, 0x00] = .ok (.wrRate 44100, []) ∧
  decode [0x24, 0x00, 0x00, 0x10, 0x01, 0x00, 0x00, 0x00] = .ok (.wrCtrl 1, []) ∧
  decode [0x1C, 0x00, 0x00, 0x20] = .ok (.rdStatus, []) ∧
  decode [0x74, 0x00, 0x00, 0x20] = .ok (.rdSum5, []) ∧
  decode [0xFC, 0x00, 0x00, 0x20] = .ok (.rdReservedHigh 0xFC, []) ∧
  decode [0x00, 0x00, 0x00, 0x30, 0x03, 0x00, 0x00, 0x00, 0x01, 0x02, 0x03] = .ok (.write [0x01, 0x02, 0x03], []) ∧
  decode [0x00, 0x00, 0x00, 0x40] = .ok (.illegal 0x40000000, [])

/-- R79 (and R78, 20_memory.md R49, 60_exceptions.md R185): a response is CODE and DATA, 5 bytes; an RMS event is TAG 1, DB, DIV
and SUM, 39 bytes; a PEAK event is TAG 2, DB and PEAK, 17 bytes; each field least significant byte first. Two messages with the
same bytes are the same message. -/
def Obligations.MessageBytesHaveTheirLayoutAndAreUnambiguous : Prop :=
  (∀ code data, (Output.response code data).bytes = littleEndian 1 code.number ++ littleEndian 4 data.toNat ∧
    (Output.response code data).bytes.length = 5) ∧
  (∀ db div sum, (Output.rmsEvent db div sum).bytes =
      littleEndian 1 1 ++ littleEndian 8 db.toNat ++ littleEndian 8 div.toNat ++ littleEndian 22 sum.toNat ∧
    (Output.rmsEvent db div sum).bytes.length = 39) ∧
  (∀ db peak, (Output.peakEvent db peak).bytes =
      littleEndian 1 2 ++ littleEndian 8 db.toNat ++ littleEndian 8 peak.toNat ∧
    (Output.peakEvent db peak).bytes.length = 17) ∧
  (Code.ok.number = 0 ∧ Code.badParameters.number = 1 ∧ Code.unsupportedConfig.number = 2 ∧
    Code.configLocked.number = 3 ∧ Code.illegal.number = 4) ∧
  (∀ a b : Output, a.bytes = b.bytes → a = b)

/-! ## Register transactions -/

/-- R87 to R94: the seven configuration registers store their word in UNCONFIGURED (FORMAT only its used bits) and are locked
in RUNNING; nothing else changes. -/
def Obligations.ConfigurationWritesStoreUntilLocked : Prop :=
  WritesUnderLock .wrRate 0x10000000#32 (fun v s => { s with rate := v }) ∧
  WritesUnderLock .wrChannels 0x10000004#32 (fun v s => { s with channels := v }) ∧
  WritesUnderLock .wrFormat 0x10000008#32 (fun v s => { s with format := v &&& 0x000303FF#32 }) ∧
  WritesUnderLock .wrWindowLo 0x1000000C#32 (fun v s => { s with windowLo := v }) ∧
  WritesUnderLock .wrWindowHi 0x10000010#32 (fun v s => { s with windowHi := v }) ∧
  WritesUnderLock .wrObserveLo 0x10000014#32 (fun v s => { s with observeLo := v }) ∧
  WritesUnderLock .wrObserveHi 0x10000018#32 (fun v s => { s with observeHi := v })

/-- R95 to R101: the configuration registers read back in both phases. -/
def Obligations.ConfigurationReadsAnswerTheRegister : Prop :=
  ReadsRegister .rdRate 0x20000000#32 (fun s => s.rate) ∧
  ReadsRegister .rdChannels 0x20000004#32 (fun s => s.channels) ∧
  ReadsRegister .rdFormat 0x20000008#32 (fun s => s.format) ∧
  ReadsRegister .rdWindowLo 0x2000000C#32 (fun s => s.windowLo) ∧
  ReadsRegister .rdWindowHi 0x20000010#32 (fun s => s.windowHi) ∧
  ReadsRegister .rdObserveLo 0x20000014#32 (fun s => s.observeLo) ∧
  ReadsRegister .rdObserveHi 0x20000018#32 (fun s => s.observeHi)

/-- R102: STATUS is RUN + 2·RMODE + 16·LASTCODE + 256·LOCK_FAULT + 512·ILLEGAL_FAULT. -/
def Obligations.StatusReadGathersItsBits : Prop :=
  ReadsRegister .rdStatus 0x2000001C#32 (fun s => BitVec.ofNat 32
    ((if s.phase = .running then 1 else 0) + 2 * (if s.phase = .running ∧ s.mode = .reset then 1 else 0)
      + 16 * s.lastCode.number + 256 * (if s.lockFault then 1 else 0) + 512 * (if s.illegalFault then 1 else 0)))

/-- R103, R104, R106: RESULT reads back, CTRL reads 0, and `wr CTRL, v` answers OK in both phases, resetting the block when
bit 0 of v is set and doing nothing else when it is clear. -/
def Obligations.ResultAndControlTransactions : Prop :=
  ReadsRegister .rdResult 0x20000020#32 (fun s => s.result) ∧
  ReadsRegister .rdCtrl 0x20000024#32 (fun _ => 0) ∧
  (∀ v : Word, encode (.wrCtrl v) = bytesOfWord 0x10000024#32 ++ bytesOfWord v) ∧
  (∀ (v : Word) (s : State), v.getLsbD 0 = false →
    exec (.wrCtrl v) s = .next { s with out := s.out ++ [.response .ok 0] }) ∧
  (∀ (v : Word) (s : State), v.getLsbD 0 = true →
    ∃ t, exec (.wrCtrl v) s = .next t ∧ AllAtReset t ∧ t.out = s.out ++ [.response .ok 0] ∧ t.input = s.input)

/-- R107 to R116, R118, R119: each `_LO` and `_HI` register answers the low and the high half of its 64-bit quantity. -/
def Obligations.ObservationReadsAnswerTheHalves : Prop :=
  ReadsRegister .rdPeriodLo 0x20000028#32 (fun s => BitVec.ofNat 32 (s.P.toNat % 2 ^ 32)) ∧
  ReadsRegister .rdPeriodHi 0x2000002C#32 (fun s => BitVec.ofNat 32 (s.P.toNat / 2 ^ 32)) ∧
  ReadsRegister .rdWsampLo 0x20000030#32 (fun s => BitVec.ofNat 32 (s.N.toNat % 2 ^ 32)) ∧
  ReadsRegister .rdWsampHi 0x20000034#32 (fun s => BitVec.ofNat 32 (s.N.toNat / 2 ^ 32)) ∧
  ReadsRegister .rdCountLo 0x20000038#32 (fun s => BitVec.ofNat 32 (s.countdown.toNat % 2 ^ 32)) ∧
  ReadsRegister .rdCountHi 0x2000003C#32 (fun s => BitVec.ofNat 32 (s.countdown.toNat / 2 ^ 32)) ∧
  ReadsRegister .rdFillLo 0x20000040#32 (fun s => BitVec.ofNat 32 (s.fill.toNat % 2 ^ 32)) ∧
  ReadsRegister .rdFillHi 0x20000044#32 (fun s => BitVec.ofNat 32 (s.fill.toNat / 2 ^ 32)) ∧
  ReadsRegister .rdPeakLo 0x20000048#32 (fun s => BitVec.ofNat 32 (s.peak.toNat % 2 ^ 32)) ∧
  ReadsRegister .rdPeakHi 0x2000004C#32 (fun s => BitVec.ofNat 32 (s.peak.toNat / 2 ^ 32)) ∧
  ReadsRegister .rdPosLo 0x20000054#32 (fun s => BitVec.ofNat 32 (s.pos.toNat % 2 ^ 32)) ∧
  ReadsRegister .rdPosHi 0x20000058#32 (fun s => BitVec.ofNat 32 (s.pos.toNat / 2 ^ 32))

/-- R120 to R125: SUM0 to SUM5 answer the six words of the running sum, the bits past 175 as 0. -/
def Obligations.SumReadsAnswerTheWordsOfTheSum : Prop :=
  ReadsRegister .rdSum0 0x20000060#32 (fun s => BitVec.ofNat 32 (s.sum.toNat % 2 ^ 32)) ∧
  ReadsRegister .rdSum1 0x20000064#32 (fun s => BitVec.ofNat 32 (s.sum.toNat / 2 ^ 32 % 2 ^ 32)) ∧
  ReadsRegister .rdSum2 0x20000068#32 (fun s => BitVec.ofNat 32 (s.sum.toNat / 2 ^ 64 % 2 ^ 32)) ∧
  ReadsRegister .rdSum3 0x2000006C#32 (fun s => BitVec.ofNat 32 (s.sum.toNat / 2 ^ 96 % 2 ^ 32)) ∧
  ReadsRegister .rdSum4 0x20000070#32 (fun s => BitVec.ofNat 32 (s.sum.toNat / 2 ^ 128 % 2 ^ 32)) ∧
  ReadsRegister .rdSum5 0x20000074#32 (fun s => BitVec.ofNat 32 (s.sum.toNat / 2 ^ 160 % 2 ^ 16))

/-- R117: PEND answers the number of pending bytes, where it fits a word, and changes nothing; beyond a word the value is the
free one of log entry 9 and the read still answers OK. -/
def Obligations.PendReadAnswersThePendingLength : Prop :=
  encode .rdPend = bytesOfWord 0x20000050#32 ∧
  (∀ s : State, s.pend.length < 2 ^ 32 →
    exec .rdPend s = .next { s with out := s.out ++ [.response .ok (BitVec.ofNat 32 s.pend.length)] }) ∧
  (∀ s : State, ∃ v, exec .rdPend s = .next { s with out := s.out ++ [.response .ok v] })

/-- R105: a write to any of the 21 read-only registers answers OK and changes nothing, the sticky flags included. -/
def Obligations.ReadOnlyWritesAreIgnored : Prop :=
  IgnoresWrite .wrStatus 0x1000001C#32 ∧ IgnoresWrite .wrResult 0x10000020#32 ∧
  IgnoresWrite .wrPeriodLo 0x10000028#32 ∧ IgnoresWrite .wrPeriodHi 0x1000002C#32 ∧
  IgnoresWrite .wrWsampLo 0x10000030#32 ∧ IgnoresWrite .wrWsampHi 0x10000034#32 ∧
  IgnoresWrite .wrCountLo 0x10000038#32 ∧ IgnoresWrite .wrCountHi 0x1000003C#32 ∧
  IgnoresWrite .wrFillLo 0x10000040#32 ∧ IgnoresWrite .wrFillHi 0x10000044#32 ∧
  IgnoresWrite .wrPeakLo 0x10000048#32 ∧ IgnoresWrite .wrPeakHi 0x1000004C#32 ∧
  IgnoresWrite .wrPend 0x10000050#32 ∧
  IgnoresWrite .wrPosLo 0x10000054#32 ∧ IgnoresWrite .wrPosHi 0x10000058#32 ∧
  IgnoresWrite .wrSum0 0x10000060#32 ∧ IgnoresWrite .wrSum1 0x10000064#32 ∧
  IgnoresWrite .wrSum2 0x10000068#32 ∧ IgnoresWrite .wrSum3 0x1000006C#32 ∧
  IgnoresWrite .wrSum4 0x10000070#32 ∧ IgnoresWrite .wrSum5 0x10000074#32

/-- R126: at a reserved offset a write is ignored and a read answers 0, both with OK; an unaligned offset is not reserved but
illegal. -/
def Obligations.ReservedOffsetsIgnoreWritesAndReadZero : Prop :=
  IgnoresWrite .wrReserved5C 0x1000005C#32 ∧ ReadsRegister .rdReserved5C 0x2000005C#32 (fun _ => 0) ∧
  IgnoresWrite .wrReserved78 0x10000078#32 ∧ ReadsRegister .rdReserved78 0x20000078#32 (fun _ => 0) ∧
  IgnoresWrite .wrReserved7C 0x1000007C#32 ∧ ReadsRegister .rdReserved7C 0x2000007C#32 (fun _ => 0) ∧
  (∀ off : Byte, 0x80 ≤ off.toNat → off.toNat % 4 = 0 →
    IgnoresWrite (.wrReservedHigh off) (0x10000000#32 + off.setWidth 32) ∧
    ReadsRegister (.rdReservedHigh off) (0x20000000#32 + off.setWidth 32) (fun _ => 0)) ∧
  (∀ (off : Byte) (rest : List Byte), off.toNat % 4 ≠ 0 →
    decode (bytesOfWord (0x10000000#32 + off.setWidth 32) ++ rest) = .ok (.illegal (0x10000000#32 + off.setWidth 32), rest) ∧
    decode (bytesOfWord (0x20000000#32 + off.setWidth 32) ++ rest) = .ok (.illegal (0x20000000#32 + off.setWidth 32), rest))

/-- R55: no register read has a side effect and every one is idempotent: it adds one OK response to the history, and read again
it answers the same. -/
def Obligations.RegisterReadsHaveNoSideEffect : Prop :=
  ∀ (i : Instr) (s : State), isRegRead i = true →
    ∃ v, exec i s = .next { s with out := s.out ++ [.response .ok v] } ∧
      exec i { s with out := s.out ++ [.response .ok v] } =
        .next { s with out := s.out ++ [.response .ok v, .response .ok v] }

/-! ## Validation and the WRITE transaction -/

/-- R129 to R132: in UNCONFIGURED a WRITE with a bad configuration answers BAD_PARAMETERS, whatever the hardware's limits say;
one whose configuration is not bad but exceeds the hardware answers UNSUPPORTED_CONFIG. Either discards its payload, records
the code and 0, and changes nothing else. -/
def Obligations.FailedValidationDiscardsThePayload : Prop :=
  ∀ (s : State) (payload : List Byte), s.phase = .unconfigured →
    (BadConfiguration s → exec (.write payload) s = .next { s with
      lastCode := .badParameters, result := 0, out := s.out ++ [.response .badParameters 0] }) ∧
    (¬ BadConfiguration s → ExceedsHardware params s → exec (.write payload) s = .next { s with
      lastCode := .unsupportedConfig, result := 0, out := s.out ++ [.response .unsupportedConfig 0] })

/-- R134, R135, R136: the first WRITE with a configuration the hardware runs derives the constants, starts the stream state,
enters RUNNING, and then does with its payload what it does in RUNNING; with no payload it only answers (OK, 0). The frame
length is the exact product where that fits the 32 bits of 10_state.md R20 (log entry 8 where it does not). -/
def Obligations.FirstGoodWriteConfiguresAndRuns : Prop :=
  ∀ (s : State) (payload : List Byte), s.phase = .unconfigured → ¬ BadConfiguration s → ¬ ExceedsHardware params s →
    ∃ c : State,
      c = { s with
        mode := c.mode, wordBytes := c.wordBytes, frameBytes := c.frameBytes, wordMax := c.wordMax, P := c.P, N := c.N,
        pend := [], pos := 0, fill := 0, sum := 0, peak := 0, countdown := c.P, phase := .running } ∧
      (c.mode = .circular ↔ windowNumber s ≠ observeNumber s) ∧
      c.wordBytes.toNat = wordSizeNumber s / 8 ∧
      (s.channels.toNat * (wordSizeNumber s / 8) < 2 ^ 32 →
        c.frameBytes.toNat = s.channels.toNat * (wordSizeNumber s / 8)) ∧
      c.wordMax.toNat = 2 ^ (wordSizeNumber s - 1) ∧
      c.P.toNat = intervalNumber s - 1 ∧
      c.N.toNat = (if windowNumber s ≠ observeNumber s then windowSlotsNumber s else 0) ∧
      exec (.write payload) s = exec (.write payload) c ∧
      exec (.write []) s = .next { c with result := 0, lastCode := .ok, out := s.out ++ [.response .ok 0] }

/-- R139, R150, R180: in RUNNING a WRITE of any payload completes with (OK, DATA). The next state is that of the byte steps of
the payload, each byte once and in order, whatever observers are configured (R173), with the code, DATA and the response added
and nothing else: the pending bytes, the buffer, the cursor, the fill count, the sum, the peak and the countdown are those the
byte steps leave. It sends its report events before its response, and leaves the configuration, the derived constants, the phase and the sticky flags as they are. DATA is LEN for a
payload that fits LEN; for one of 2^32 bytes or more, which no decoded WRITE has, it is the length modulo 2^32, the model's
choice (log entry 11). -/
def Obligations.RunningWriteAcceptsEveryPayload : Prop :=
  ∀ (s : State) (payload : List Byte), s.phase = .running →
    ∃ (t : State) (events : List Output), exec (.write payload) s = .next t ∧
      t = { payload.foldl (State.byteStep params) s with
        result := BitVec.ofNat 32 payload.length, lastCode := .ok, out := t.out } ∧
      (payload.foldl (State.byteStep params) s).out = s.out ++ events ∧
      t.out = s.out ++ events ++ [.response .ok (BitVec.ofNat 32 payload.length)] ∧
      (∀ e ∈ events, e.isResponse = false) ∧
      t.result = BitVec.ofNat 32 payload.length ∧ t.lastCode = .ok ∧ t.phase = .running ∧
      SameConfig s t ∧ SameDerived s t ∧
      t.lockFault = s.lockFault ∧ t.illegalFault = s.illegalFault ∧ t.input = s.input ∧ t.bufEpoch = s.bufEpoch

/-- R141: decoding a payload, the byte steps of R140 on each byte in turn, is decoding, in order, the complete frames of the pending bytes followed by the payload; what is
left over, less than a frame, is the new pending state. -/
def Obligations.PayloadDecodesByWholeFrames : Prop :=
  ∀ (p : Config.Params) (s : State) (payload : List Byte), s.pend.length < s.frameBytes.toNat →
    s.decodePayload p payload = payload.foldl (State.byteStep p) s ∧
    s.decodePayload p payload =
      { { s with pend := [] }.sampleSteps p (s.streamSamples (s.pend ++ payload)) with
        pend := (s.pend ++ payload).drop ((s.pend ++ payload).length / s.frameBytes.toNat * s.frameBytes.toNat) } ∧
    (s.decodePayload p payload).pend.length = (s.pend ++ payload).length % s.frameBytes.toNat

/-- 20_memory.md R61: in RUNNING, splitting a chunk into two WRITEs changes only the responses and RESULT: the state and the
report events are the same. -/
def Obligations.SplittingAWriteChangesOnlyResponses : Prop :=
  ∀ (s : State) (a b : List Byte), s.phase = .running →
    ∃ whole first second : State, exec (.write (a ++ b)) s = .next whole ∧ exec (.write a) s = .next first ∧
      exec (.write b) first = .next second ∧ whole.events = second.events ∧
      whole = { second with result := whole.result, out := whole.out }

/-! ## Words and samples -/

/-- R144 (and R62): the raw value of a word is the sum of its bytes, the first byte lowest when `le` is set and highest when
not. -/
def Obligations.RawValueFollowsTheByteOrder : Prop :=
  ∀ word : List Byte,
    rawOfWord true word = ∑ k ∈ Finset.range word.length, (word.getD k 0).toNat * 2 ^ (8 * k) ∧
    rawOfWord false word = ∑ k ∈ Finset.range word.length, (word.getD k 0).toNat * 2 ^ (8 * (word.length - 1 - k)) ∧
    rawOfWord true word < 2 ^ (8 * word.length) ∧ rawOfWord false word < 2 ^ (8 * word.length)

/-- R147, R148: every sample of a legal word size lies in [−2^(wsize−1), 2^(wsize−1) − 1], and its square, at most
2^(2·wsize−2), is held exactly. -/
def Obligations.SamplesAndSquaresStayInRange : Prop :=
  ∀ (words : Nat) (le signed : Bool) (word : List Byte) (x : Int), 1 ≤ words → words ≤ 7 → word.length = words →
    x = decodeWord (8 * words) le signed word →
    -(2 ^ (8 * words - 1)) ≤ x ∧ x ≤ 2 ^ (8 * words - 1) - 1 ∧
    ((squareOf x).toNat : Int) = x * x ∧ (squareOf x).toNat ≤ 2 ^ (2 * (8 * words) - 2) ∧
    ((squareOf x).toNat = 2 ^ 110 ↔ words = 7 ∧ x = -(2 ^ 55))

/-- R63: the signed and the offset-unsigned encoding of one sample differ only in the top bit. -/
def Obligations.EncodingsDifferInTheTopBit : Prop :=
  ∀ (wsize raw : Nat), 1 ≤ wsize → raw < 2 ^ wsize →
    sampleOfRaw wsize false (raw ^^^ 2 ^ (wsize - 1)) = sampleOfRaw wsize true raw

/-- R145, R146 (and R63): the sample of a word, in either byte order: unsigned, it is the raw value less the bias 2^(wsize−1);
signed, it is the raw value read as two's complement. -/
def Obligations.SampleValueFollowsTheEncoding : Prop :=
  ∀ (le : Bool) (word : List Byte), word ≠ [] →
    let wsize := 8 * word.length
    let raw := rawOfWord le word
    raw < 2 ^ wsize ∧
    decodeWord wsize le false word + 2 ^ (wsize - 1) = (raw : Int) ∧
    decodeWord wsize le true word = (BitVec.ofNat wsize raw).toInt ∧
    (2 ^ (wsize - 1) ≤ raw → decodeWord wsize le true word = (raw : Int) - 2 ^ wsize) ∧
    (raw < 2 ^ (wsize - 1) → decodeWord wsize le true word = raw)

/-- R140, R142 (and 30_encoding.md R65): a byte that completes no frame waits; one that completes a frame has it decoded, and the
sample steps are those of the words of the frame in order, word c its bytes c·B to c·B + B − 1, for c = 0 to channels − 1. -/
def Obligations.FrameWordsAreConsecutiveSlices : Prop :=
  (∀ (p : Config.Params) (s : State) (b : Byte),
    ((s.pend ++ [b]).length ≠ s.frameBytes.toNat → s.byteStep p b = { s with pend := s.pend ++ [b] }) ∧
    ((s.pend ++ [b]).length = s.frameBytes.toNat →
      s.byteStep p b = { s with pend := [] }.decodeFrame p (s.pend ++ [b]))) ∧
  (∀ (p : Config.Params) (s : State) (frame : List Byte),
    frame.length = s.channels.toNat * s.wordBytes.toNat →
    s.decodeFrame p frame = s.sampleSteps p ((List.range s.channels.toNat).map fun c =>
      decodeWord (wordSizeNumber s) (s.format.getLsbD 8) (s.format.getLsbD 9)
        ((frame.drop (c * s.wordBytes.toNat)).take s.wordBytes.toNat)))

/-! ## The sample step -/

/-- R154 to R157: in CIRCULAR mode a fold in the growth phase evicts nothing and grows the fill count; in the steady phase it
evicts the square at the cursor; the cursor advances modulo N; every other slot keeps what it held. -/
def Obligations.CircularFoldReplacesTheSlotAtTheCursor : Prop :=
  ∀ (s : State) (q : Square), s.mode = .circular → s.fill.toNat ≤ s.N.toNat → s.pos.toNat < s.N.toNat →
    let t := s.windowFold q
    t.readSlot s.pos.toNat = q ∧
    (∀ slot, slot ≠ s.pos.toNat → t.readSlot slot = s.readSlot slot) ∧
    t.pos.toNat = (s.pos.toNat + 1) % s.N.toNat ∧
    (s.fill.toNat < s.N.toNat → t.fill.toNat = s.fill.toNat + 1 ∧
      (s.sum.toNat + q.toNat < 2 ^ 176 → t.sum.toNat = s.sum.toNat + q.toNat)) ∧
    (s.fill = s.N → t.fill = s.fill ∧
      ((s.readSlot s.pos.toNat).toNat ≤ s.sum.toNat → s.sum.toNat + q.toNat < 2 ^ 176 →
        t.sum.toNat = s.sum.toNat + q.toNat - (s.readSlot s.pos.toNat).toNat)) ∧
    t = { s with buf := t.buf, pos := t.pos, fill := t.fill, sum := t.sum }

/-- R158, R164: the RESET fold adds to the sum and counts, touching no slot; the peak fold takes the larger magnitude. -/
def Obligations.ResetFoldAndPeakFoldAccumulate : Prop :=
  (∀ (s : State) (q : Square), s.mode = .reset →
    ∃ t, s.windowFold q = t ∧ t = { s with sum := t.sum, fill := t.fill } ∧
      (s.sum.toNat + q.toNat < 2 ^ 176 → t.sum.toNat = s.sum.toNat + q.toNat) ∧
      (s.fill.toNat + 1 < 2 ^ 64 → t.fill.toNat = s.fill.toNat + 1)) ∧
  (∀ (s : State) (x : Int), IsSample x →
    ∃ t, s.peakFold x = t ∧ t = { s with peak := t.peak } ∧ t.peak.toNat = max s.peak.toNat x.natAbs)

/-- R168, R170 to R173: the schedule reports when the countdown is 0 and reloads it, and otherwise decrements it. A report sends
the RMS event, then the PEAK event, each only if enabled, with the values before the clears; it clears the peak always and the
sum and fill count in RESET mode. -/
def Obligations.ScheduleReportsAtZero : Prop :=
  ∀ (p : Config.Params) (s : State),
    (s.countdown.toNat ≠ 0 → ∃ t, s.schedule p = t ∧ t = { s with countdown := t.countdown } ∧
      t.countdown.toNat = s.countdown.toNat - 1) ∧
    (s.countdown.toNat = 0 → s.schedule p = { s with
      out := s.out
        ++ (if s.format.getLsbD 16 then [.rmsEvent (p.dbfnRms s.sum.toNat s.fill.toNat s.wsize) s.fill s.sum] else [])
        ++ (if s.format.getLsbD 17 then [.peakEvent (p.dbfnPeak s.peak.toNat s.wsize) s.peak] else [])
      peak := 0
      sum := if s.mode = .reset then 0 else s.sum
      fill := if s.mode = .reset then 0 else s.fill
      countdown := s.P })

/-! ## Streams of samples -/

/-- 43_rolling_window.md R160 (and R154 to R157, R162): in CIRCULAR mode, after any samples, the sum is the sum of the squares of
the most recent min(T, N) of them, the fill count is min(T, N) and the cursor T mod N. -/
def Obligations.SlidingWindowSumIsTheRecentSquares : Prop :=
  ∀ (p : Config.Params) (s : State) (samples : List Int), s.mode = .circular → 0 < s.N.toNat → StreamStart s →
    (∀ x ∈ samples, IsSample x) →
    let t := s.sampleSteps p samples
    t.sum.toNat = sumOfSquares (recent s.N.toNat samples) ∧
    t.fill.toNat = min samples.length s.N.toNat ∧
    t.pos.toNat = samples.length % s.N.toNat

/-- 10_state.md R32 item 3, 43_rolling_window.md R158, R162: in RESET mode the sum and the fill count are those of the samples
since the last report. -/
def Obligations.ResetModeSumIsTheIntervalSoFar : Prop :=
  ∀ (p : Config.Params) (s : State) (samples : List Int), s.mode = .reset → s.P.toNat + 1 < 2 ^ 64 → StreamStart s →
    (∀ x ∈ samples, IsSample x) →
    let t := s.sampleSteps p samples
    let since := recent (samples.length % (s.P.toNat + 1)) samples
    t.sum.toNat = sumOfSquares since ∧ t.fill.toNat = since.length ∧ t.pos = 0 ∧ t.buf = s.buf

/-- 45_report_scheduler.md R181, 10_state.md R32 items 4 and 5: after T samples the countdown is P − (T mod (P + 1)) and the peak
is the largest magnitude since the last report. -/
def Obligations.CountdownAndPeakFollowTheCadence : Prop :=
  ∀ (p : Config.Params) (s : State) (samples : List Int), StreamStart s → (∀ x ∈ samples, IsSample x) →
    let t := s.sampleSteps p samples
    t.countdown.toNat = s.P.toNat - samples.length % (s.P.toNat + 1) ∧
    t.peak.toNat = largestMagnitude (recent (samples.length % (s.P.toNat + 1)) samples)

/-- R170, R178, R181: the report events of a stream are exactly the reference ones, computed from the samples alone: one report
after every P + 1 samples, with the sum and the count of the samples it averages and the peak of its interval. -/
def Obligations.ReportStreamIsTheReference : Prop :=
  ∀ (p : Config.Params) (s : State) (samples : List Int), StreamStart s → s.P.toNat + 1 < 2 ^ 64 →
    (s.mode = .circular → 0 < s.N.toNat) → (∀ x ∈ samples, IsSample x) →
    (s.sampleSteps p samples).out = s.out ++ referenceEvents p s samples

/-- R32 at the start of RUNNING, before any sample. -/
def Obligations.HistoryHoldsAtTheStart : Prop :=
  ∀ (p : Config.Params) (s : State), StreamStart s → s.P.toNat + 1 < 2 ^ 64 → (s.mode = .circular → 0 < s.N.toNat) →
    HoldsHistory p s.out s []

/-- R32 items 2 to 5, 43_rolling_window.md R154 to R160, 45_report_scheduler.md R168 to R181: one sample step keeps the relation
between the state and the history of samples and events, from every state that has it. -/
def Obligations.SampleStepKeepsTheHistory : Prop :=
  ∀ (p : Config.Params) (before : List Output) (s : State) (samples : List Int) (x : Int),
    HoldsHistory p before s samples → IsSample x → HoldsHistory p before (s.sampleStep p x) (samples ++ [x])

/-- R182: a stream of fewer than P + 1 samples causes no event. -/
def Obligations.NoReportBeforeTheFirstBoundary : Prop :=
  ∀ (p : Config.Params) (s : State) (samples : List Int), StreamStart s → samples.length < s.P.toNat + 1 →
    (s.sampleSteps p samples).out = s.out

/-- R161, R23: what the buffer holds at the start of RUNNING is never observed: another content, or another count of resets,
gives the same events and the same sum, fill count and cursor. -/
def Obligations.UnwrittenSlotsAreNeverObserved : Prop :=
  ∀ (p : Config.Params) (s : State) (other : Memory) (epoch : Nat) (samples : List Int), StreamStart s →
    (s.mode = .circular → 0 < s.N.toNat) →
    let t := s.sampleSteps p samples
    let u := { s with buf := other, bufEpoch := epoch }.sampleSteps p samples
    t = { u with buf := t.buf, bufEpoch := t.bufEpoch }

/-- R139, R141, R170, R181: the whole block on its first WRITE. From UNCONFIGURED with a configuration the hardware runs, a WRITE
sends the reference events of the frames its payload completes, and then its response (its DATA is LEN for a payload that fits
LEN; for a longer one, which no decoded WRITE has, it is the model's, log entry 11). -/
def Obligations.FirstWriteReportsExactlyTheReference : Prop :=
  ∀ (s : State) (payload : List Byte), s.phase = .unconfigured → s.validate params = .ok →
    ∃ t, exec (.write payload) s = .next t ∧
      t.out = s.out ++ referenceEvents params s.configure (s.configure.streamSamples payload)
        ++ [.response .ok (BitVec.ofNat 32 payload.length)]

/-! ## dB values and parameters -/

/-- R7, R177: the parameters lie in their ranges and the dB functions keep their fixed points: −∞ for zero, +0.0 for full scale,
and every other value finite, not NaN and at most +0.0. -/
def Obligations.ParametersKeepTheirRangesAndFixedPoints : Prop := LegalParams params

/-- R174, R177: with the reference rounding, the DB field of every RMS event that a sample step sends in RUNNING is the double
nearest to the RMS dB value of the integers in that same event: −∞ for a zero sum, else 10·log10(sqrt(sum/div)/wordMax), which
is 5·log10(sum/div) − 10·(wsize−1)·log10(2); at most 0, and 0 only where every averaged square is full scale. -/
def Obligations.RmsEventDbIsTheNearestDouble : Prop :=
  ∀ (p : Config.Params) (s : State) (x : Int) (events : List Output) (db : Double) (div : Wide) (sum : Sum),
    UsesReferenceDb p → Inv p s → s.phase = .running → x.natAbs ≤ s.wordMax.toNat →
    (s.sampleStep p x).out = s.out ++ events → .rmsEvent db div sum ∈ events →
    let w := wordSizeNumber s
    0 < div.toNat ∧ sum.toNat ≤ div.toNat * 4 ^ (w - 1) ∧
    ∃ v : EReal, IsNearestDouble v db ∧
      (sum.toNat = 0 → v = ⊥) ∧
      (0 < sum.toNat →
        v = ((10 * Real.logb 10 (Real.sqrt ((sum.toNat : ℝ) / div.toNat) / 2 ^ (w - 1)) : ℝ) : EReal) ∧
        v = ((5 * Real.logb 10 ((sum.toNat : ℝ) / div.toNat) - 10 * ((w - 1 : Nat) : ℝ) * Real.logb 10 2 : ℝ) : EReal)) ∧
      v ≤ 0 ∧ (v = 0 ↔ sum.toNat = div.toNat * 4 ^ (w - 1))

/-- R175, R177: with the reference rounding, the DB field of every PEAK event that a sample step sends in RUNNING is the double
nearest to 10·log10(peak/wordMax) of the peak in that same event: −∞ exactly for a zero peak; at most 0, and 0 exactly at full
scale. -/
def Obligations.PeakEventDbIsTheNearestDouble : Prop :=
  ∀ (p : Config.Params) (s : State) (x : Int) (events : List Output) (db : Double) (peak : Wide),
    UsesReferenceDb p → Inv p s → s.phase = .running → x.natAbs ≤ s.wordMax.toNat →
    (s.sampleStep p x).out = s.out ++ events → .peakEvent db peak ∈ events →
    let w := wordSizeNumber s
    peak.toNat ≤ 2 ^ (w - 1) ∧
    ∃ v : EReal, IsNearestDouble v db ∧
      (0 < peak.toNat → v = ((10 * Real.logb 10 ((peak.toNat : ℝ) / 2 ^ (w - 1)) : ℝ) : EReal)) ∧
      (v = ⊥ ↔ peak.toNat = 0) ∧ v ≤ 0 ∧ (v = 0 ↔ peak.toNat = 2 ^ (w - 1))

/-! ## Whole-machine rules -/

/-- R78: every transaction, legal or illegal, completes and produces exactly one response, after everything sent before it. -/
def Obligations.EveryTransactionGetsExactlyOneResponse : Prop :=
  ∀ (i : Instr) (s : State), ∃ (t : State) (events : List Output) (code : Code) (data : Word),
    exec i s = .next t ∧ t.out = s.out ++ events ++ [.response code data] ∧
    (∀ e ∈ events, e.isResponse = false) ∧ (isWrite i = false → events = [])

/-- 10_state.md R21: only a WRITE, a reset and a soft reset change the mutable stream state (or the derived constants). -/
def Obligations.OnlyWritesAndResetsChangeTheStream : Prop :=
  ∀ (i : Instr) (s t : State), exec i s = .next t → isWrite i = false → isSoftReset i = false →
    SameStream s t ∧ SameDerived s t ∧ t.phase = s.phase ∧ t.lastCode = s.lastCode ∧ t.result = s.result

/-- 20_memory.md R57, 40_host_registers.md R87, 70_reset_and_hazards.md R209: in RUNNING nothing but a reset changes the
configuration. -/
def Obligations.ConfigurationIsLockedInRunning : Prop :=
  ∀ (i : Instr) (s t : State), s.phase = .running → exec i s = .next t → isSoftReset i = false →
    SameConfig s t ∧ SameDerived s t ∧ t.phase = .running

/-- 10_state.md R18: the phase becomes RUNNING only by a WRITE that passes validation, and returns to UNCONFIGURED only by a soft
reset (or a hardware reset, which is no transaction). -/
def Obligations.PhaseChangesOnlyByValidationAndReset : Prop :=
  ∀ (i : Instr) (s t : State), exec i s = .next t →
    (s.phase = .unconfigured → (t.phase = .running ↔ isWrite i = true ∧ s.validate params = .ok)) ∧
    (s.phase = .running → (t.phase = .unconfigured ↔ isSoftReset i = true))

/-- R29, R192: the sticky flags are set by a locked configuration write and by an illegal header, by nothing else, and no
transaction but the soft reset clears them. -/
def Obligations.StickyFlagsAreClearedOnlyByReset : Prop :=
  ∀ (i : Instr) (s t : State), exec i s = .next t → isSoftReset i = false →
    t.lockFault = (s.lockFault || (isConfigWrite i && s.phase == .running)) ∧
    t.illegalFault = (s.illegalFault || isIllegalHeader i)

/-! ## The invariant -/

/-- The invariant holds right after reset. -/
def Obligations.InvariantHoldsAtReset : Prop := Inv params State.reset

/-- R32: every step keeps the invariant, from every state that has it. -/
def Obligations.EveryStepKeepsTheInvariant : Prop :=
  ∀ s t : State, Inv params s → step s = .next t → Inv params t

/-- R32 item 6, R162: under the invariant the running sum is at most max(N, P + 1) · 2^110 and below 2^174. -/
def Obligations.TheSumStaysBelowItsBound : Prop :=
  ∀ s : State, Inv params s → s.phase = .running →
    s.sum.toNat ≤ max s.N.toNat (s.P.toNat + 1) * 2 ^ 110 ∧ s.sum.toNat < 2 ^ 174

/-- R161: under the invariant the slot a steady fold would evict has been written since the last reset. -/
def Obligations.TheEvictedSlotHasBeenWritten : Prop :=
  ∀ s : State, Inv params s → s.phase = .running → s.mode = .circular → s.fill = s.N →
    ∃ q, s.buf.find? s.pos.toNat = some q
end

