-- ==== Sys2Proof/Laws/Bytes.lean ====
section
/-! SUPPORT. The byte order of the channels: bytes and numbers give each other back. -/

namespace Sys2Proof

@[simp] theorem bytesLE_length (n v : Nat) : (bytesLE n v).length = n := by
  induction n generalizing v with
  | zero => rfl
  | succ n ih => simp [bytesLE, ih]

@[simp] theorem natLE_nil : natLE [] = 0 := rfl

@[simp] theorem natLE_cons (b : Byte) (bs : List Byte) : natLE (b :: bs) = b.toNat + 256 * natLE bs := rfl

theorem natLE_lt (bs : List Byte) : natLE bs < 2 ^ (8 * bs.length) := by
  induction bs with
  | nil => simp
  | cons b bs ih =>
    have hb := b.isLt
    rw [natLE_cons, List.length_cons, Nat.mul_succ, Nat.pow_add]
    omega

theorem natBE_lt (bs : List Byte) : natBE bs < 2 ^ (8 * bs.length) := by
  simpa [natBE] using natLE_lt bs.reverse

theorem natLE_append (bs cs : List Byte) : natLE (bs ++ cs) = natLE bs + 2 ^ (8 * bs.length) * natLE cs := by
  induction bs with
  | nil => simp
  | cons b bs ih =>
    rw [List.cons_append, natLE_cons, natLE_cons, ih, List.length_cons, Nat.mul_succ, Nat.pow_add]
    ring

theorem natLE_bytesLE (n v : Nat) : natLE (bytesLE n v) = v % 2 ^ (8 * n) := by
  induction n generalizing v with
  | zero => simp [bytesLE, Nat.mod_one]
  | succ n ih =>
    simp only [bytesLE, natLE_cons, ih, BitVec.toNat_ofNat]
    rw [Nat.mul_succ, Nat.add_comm (8 * n) 8, Nat.pow_add, Nat.mod_mul]

theorem bytesLE_natLE (bs : List Byte) : bytesLE bs.length (natLE bs) = bs := by
  induction bs with
  | nil => rfl
  | cons b bs ih =>
    have hb := b.isLt
    rw [List.length_cons, bytesLE, natLE_cons]
    congr 1
    · apply BitVec.eq_of_toNat_eq
      rw [BitVec.toNat_ofNat]
      omega
    · rw [show (b.toNat + 256 * natLE bs) / 256 = natLE bs by omega, ih]

/-- Concatenation of bit vectors as numbers. -/
theorem append_toNat {m n : Nat} (x : BitVec m) (y : BitVec n) : (x ++ y).toNat = x.toNat * 2 ^ n + y.toNat := by
  rw [BitVec.toNat_append, ← Nat.shiftLeft_add_eq_or_of_lt y.isLt, Nat.shiftLeft_eq]

/-- A field of a bit vector as a number. -/
theorem extract_toNat {n : Nat} (x : BitVec n) (start len : Nat) :
    (x.extractLsb' start len).toNat = x.toNat / 2 ^ start % 2 ^ len := by
  rw [BitVec.extractLsb'_toNat, Nat.shiftRight_eq_div_pow]

/-- R70: `b0 + 2^8*b1 + 2^16*b2 + 2^24*b3`. -/
theorem wordOfBytes_toNat (b0 b1 b2 b3 : Byte) :
    (wordOfBytes b0 b1 b2 b3).toNat = b0.toNat + 2 ^ 8 * b1.toNat + 2 ^ 16 * b2.toNat + 2 ^ 24 * b3.toNat := by
  simp only [wordOfBytes, append_toNat]
  omega

/-- The bytes of a word make the word again. -/
@[simp] theorem wordOfBytes_extract (w : Word) :
    wordOfBytes (w.extractLsb' 0 8) (w.extractLsb' 8 8) (w.extractLsb' 16 8) (w.extractLsb' 24 8) = w := by
  apply BitVec.eq_of_toNat_eq
  have := w.isLt
  simp only [wordOfBytes_toNat, extract_toNat]
  omega

/-- The word of four bytes has those bytes. -/
@[simp] theorem bytesOfWord_wordOfBytes (b0 b1 b2 b3 : Byte) :
    bytesOfWord (wordOfBytes b0 b1 b2 b3) = [b0, b1, b2, b3] := by
  have h0 := b0.isLt
  have h1 := b1.isLt
  have h2 := b2.isLt
  have h3 := b3.isLt
  simp only [bytesOfWord, List.cons.injEq, and_true]
  refine ⟨?_, ?_, ?_, ?_⟩ <;> apply BitVec.eq_of_toNat_eq <;> simp only [extract_toNat, wordOfBytes_toNat] <;> omega

@[simp] theorem bytesOfWord_length (w : Word) : (bytesOfWord w).length = 4 := rfl

theorem bytesOfWord_injective {v w : Word} (h : bytesOfWord v = bytesOfWord w) : v = w := by
  simp only [bytesOfWord, List.cons.injEq, and_true] at h
  rw [← wordOfBytes_extract v, ← wordOfBytes_extract w, h.1, h.2.1, h.2.2.1, h.2.2.2]

end Sys2Proof
end

