-- ==== Sys2Proof/Laws/Decode.lean ====
section
/-! SUPPORT. What the decoder does with a header: one lemma per form, so that no later proof unfolds `classify` or `decode`. -/

namespace Sys2Proof

/-- The fields of a header as numbers. -/
theorem classify_eq (h : Word) : classify h =
    if h.toNat / 2 ^ 8 % 2 ^ 20 ≠ 0 then .illegal
    else if h.toNat / 2 ^ 28 = 1 ∧ h.toNat % 4 = 0 then .regWrite (h.extractLsb' 0 8)
    else if h.toNat / 2 ^ 28 = 2 ∧ h.toNat % 4 = 0 then .regRead (h.extractLsb' 0 8)
    else if h.toNat / 2 ^ 28 = 3 ∧ h.toNat % 2 ^ 8 = 0 then .write
    else .illegal := by
  have hlt := h.isLt
  have hzero : (h.extractLsb' 8 20 != 0) = decide (h.toNat / 2 ^ 8 % 2 ^ 20 ≠ 0) := by
    rw [bne, decide_not, ← extract_toNat]
    congr 1
    exact decide_eq_decide.mpr (BitVec.toNat_inj.symm.trans (by simp))
  have htype : (h.extractLsb' 28 4).toNat = h.toNat / 2 ^ 28 := by
    rw [extract_toNat]; omega
  have hoff : (h.extractLsb' 0 8).toNat = h.toNat % 2 ^ 8 := by
    rw [extract_toNat]; omega
  have hlow : ((h.extractLsb' 0 8).extractLsb' 0 2 == 0) = decide (h.toNat % 4 = 0) := by
    rw [beq_eq_decide]
    refine decide_eq_decide.mpr (BitVec.toNat_inj.symm.trans ?_)
    rw [extract_toNat, hoff]
    rw [show (0 : BitVec 2).toNat = 0 from rfl]
    omega
  have hz : (h.extractLsb' 0 8 == 0) = decide (h.toNat % 2 ^ 8 = 0) := by
    rw [beq_eq_decide]
    refine decide_eq_decide.mpr (BitVec.toNat_inj.symm.trans ?_)
    rw [hoff]
    exact Iff.rfl
  unfold classify
  simp only [hzero, htype, hlow, hz, decide_eq_true_eq]
  by_cases h0 : h.toNat / 2 ^ 8 % 2 ^ 20 ≠ 0
  · rw [if_pos h0, if_pos h0]
  rw [if_neg h0, if_neg h0]
  have : h.toNat / 2 ^ 28 < 16 := by omega
  generalize h.toNat / 2 ^ 28 = t at this ⊢
  interval_cases t <;> simp

/-- A REG_WRITE header at an aligned offset (R67, R72). -/
theorem classify_regWrite {off : Byte} (h : off.toNat % 4 = 0) : classify (0x100000#24 ++ off) = .regWrite off := by
  have hlt := off.isLt
  have hn : (0x100000#24 ++ off).toNat = 2 ^ 28 + off.toNat := by rw [append_toNat]; rfl
  rw [classify_eq, hn, if_neg (by omega), if_pos (by omega)]
  congr 1
  apply BitVec.eq_of_toNat_eq
  rw [extract_toNat, hn]
  omega

/-- A REG_READ header at an aligned offset (R68, R72). -/
theorem classify_regRead {off : Byte} (h : off.toNat % 4 = 0) : classify (0x200000#24 ++ off) = .regRead off := by
  have hlt := off.isLt
  have hn : (0x200000#24 ++ off).toNat = 2 ^ 29 + off.toNat := by rw [append_toNat]; rfl
  rw [classify_eq, hn, if_neg (by omega), if_neg (by omega), if_pos (by omega)]
  congr 1
  apply BitVec.eq_of_toNat_eq
  rw [extract_toNat, hn]
  omega

/-- The WRITE header (R69, R72). -/
theorem classify_write : classify 0x30000000#32 = .write := by decide

/-- The headers of R75 are exactly those the decoder takes as illegal. -/
theorem classify_illegal_iff (h : Word) : classify h = .illegal ↔ headerIllegal h = true := by
  have hlt := h.isLt
  have hb : ∀ start len : Nat, (h.extractLsb' start len != 0) = decide (h.toNat / 2 ^ start % 2 ^ len ≠ 0) := by
    intro start len
    rw [bne, decide_not, ← extract_toNat]
    congr 1
    exact decide_eq_decide.mpr (BitVec.toNat_inj.symm.trans (by simp))
  have htype : (h.extractLsb' 28 4).toNat = h.toNat / 2 ^ 28 := by
    rw [extract_toNat]; omega
  simp only [headerIllegal, hb, htype, classify_eq, Bool.or_eq_true, Bool.and_eq_true, beq_iff_eq, decide_eq_true_eq]
  split
  · simp only [true_iff]; omega
  · split
    · simp only [reduceCtorEq, false_iff]; omega
    · split
      · simp only [reduceCtorEq, false_iff]; omega
      · split
        · simp only [reduceCtorEq, false_iff]; omega
        · simp only [true_iff]; omega

/-- What the header form says about the header itself: the fields of R66 make the header again. -/
theorem header_of_classify (h : Word) :
    match classify h with
    | .regWrite off => off.toNat % 4 = 0 ∧ h = 0x100000#24 ++ off
    | .regRead off => off.toNat % 4 = 0 ∧ h = 0x200000#24 ++ off
    | .write => h = 0x30000000#32
    | .illegal => headerIllegal h = true := by
  have hlt := h.isLt
  have hill := classify_illegal_iff h
  have hc := classify_eq h
  split at hc
  · rw [hc]; exact hill.mp hc
  · next h0 =>
    split at hc
    · next h1 =>
      rw [hc]
      refine ⟨by rw [extract_toNat]; omega, ?_⟩
      apply BitVec.eq_of_toNat_eq
      rw [append_toNat, extract_toNat, show (0x100000#24).toNat = 0x100000 from rfl]
      omega
    · split at hc
      · next h2 =>
        rw [hc]
        refine ⟨by rw [extract_toNat]; omega, ?_⟩
        apply BitVec.eq_of_toNat_eq
        rw [append_toNat, extract_toNat, show (0x200000#24).toNat = 0x200000 from rfl]
        omega
      · split at hc
        · next h3 =>
          rw [hc]
          apply BitVec.eq_of_toNat_eq
          rw [show (0x30000000#32).toNat = 0x30000000 from rfl]
          omega
        · rw [hc]; exact hill.mp hc

/-- Decoding looks at the header's form first (R71). -/
theorem decode_header (h : Word) (rest : List Byte) : decode (bytesOfWord h ++ rest) =
    match classify h with
    | .illegal => .ok (.illegal h, rest)
    | .regRead off => .ok (decodeRegRead off, rest)
    | .regWrite off =>
      match rest with
      | d0 :: d1 :: d2 :: d3 :: rest => .ok (decodeRegWrite off (wordOfBytes d0 d1 d2 d3), rest)
      | _ => .error .data
    | .write =>
      match rest with
      | n0 :: n1 :: n2 :: n3 :: rest =>
        if (wordOfBytes n0 n1 n2 n3).toNat ≤ rest.length then
          .ok (.write (rest.take (wordOfBytes n0 n1 n2 n3).toNat), rest.drop (wordOfBytes n0 n1 n2 n3).toNat)
        else .error .payload
      | _ => .error .len := by
  cases hc : classify h <;> rcases rest with _ | ⟨d0, _ | ⟨d1, _ | ⟨d2, _ | ⟨d3, rest⟩⟩⟩⟩ <;>
    simp [bytesOfWord, decode, wordOfBytes_extract, hc]

/-- A REG_WRITE at an aligned offset decodes by its offset and its word (R67). -/
theorem decode_encodeRegWrite {off : Byte} (h : off.toNat % 4 = 0) (v : Word) (rest : List Byte) :
    decode (encodeRegWrite off v ++ rest) = .ok (decodeRegWrite off v, rest) := by
  rw [encodeRegWrite, List.append_assoc, decode_header, classify_regWrite h]
  simp [bytesOfWord]

/-- A REG_READ at an aligned offset decodes by its offset (R68). -/
theorem decode_encodeRegRead {off : Byte} (h : off.toNat % 4 = 0) (rest : List Byte) :
    decode (encodeRegRead off ++ rest) = .ok (decodeRegRead off, rest) := by
  rw [encodeRegRead, decode_header, classify_regRead h]

/-- A WRITE decodes to its payload (R69). -/
theorem decode_encodeWrite {payload : List Byte} (h : payload.length < 2 ^ 32) (rest : List Byte) :
    decode (encode (.write payload) ++ rest) = .ok (.write payload, rest) := by
  rw [encode, List.append_assoc, List.append_assoc, decode_header, classify_write]
  simp only [bytesOfWord, List.cons_append, List.nil_append, wordOfBytes_extract, BitVec.toNat_ofNat,
    Nat.mod_eq_of_lt h, List.length_append]
  rw [if_pos (by omega), List.take_left, List.drop_left]

/-- An offset past the listed ones is one of the reserved range (R126). -/
theorem decodeRegWrite_reservedHigh {off : Byte} (h : 0x80 ≤ off.toNat) (v : Word) :
    decodeRegWrite off v = .wrReservedHigh off v := by
  unfold decodeRegWrite
  split <;> first | omega | rfl

theorem decodeRegRead_reservedHigh {off : Byte} (h : 0x80 ≤ off.toNat) :
    decodeRegRead off = .rdReservedHigh off := by
  unfold decodeRegRead
  split <;> first | omega | rfl

end Sys2Proof
end

