-- ==== Sys2Proof/Laws/Double.lean ====
section
/-! SUPPORT. Every real number has a nearest binary64 value, ties to even, so that the reference choice of DBFN (92_eei_decisions.md
D32) exists. -/

namespace Sys2Proof.Machine

/-- The magnitude of a pattern, as a function of its low 63 bits. -/
def doubleMagnitude (n : Nat) : ℚ :=
  if n / 2 ^ 52 = 0 then (n % 2 ^ 52 : Nat) * (2 : ℚ) ^ (-1074 : ℤ)
  else (2 ^ 52 + (n % 2 ^ 52 : Nat)) * (2 : ℚ) ^ (((n / 2 ^ 52 : Nat) : ℤ) - 1075)

/-- One more in the pattern is one more unit in the last place. -/
theorem doubleMagnitude_strictMono : StrictMono doubleMagnitude := by
  refine strictMono_nat_of_lt_succ fun n => ?_
  have unit (e : ℤ) : 0 < (2 : ℚ) ^ e := by positivity
  by_cases h : n % 2 ^ 52 = 2 ^ 52 - 1
  · have hq : (n + 1) / 2 ^ 52 = n / 2 ^ 52 + 1 := by omega
    have hr : (n + 1) % 2 ^ 52 = 0 := by omega
    unfold doubleMagnitude
    rw [hq, hr, h, if_neg (Nat.succ_ne_zero _)]
    split
    · rename_i h0
      rw [h0]
      have := unit (-1074)
      norm_num at this ⊢
    · rw [show ((n / 2 ^ 52 + 1 : Nat) : ℤ) - 1075 = ((n / 2 ^ 52 : Nat) : ℤ) - 1075 + 1 by push_cast; ring,
        zpow_add_one₀ two_ne_zero]
      have := unit (((n / 2 ^ 52 : Nat) : ℤ) - 1075)
      norm_num at this ⊢
      linarith
  · have hq : (n + 1) / 2 ^ 52 = n / 2 ^ 52 := by omega
    have hr : (n + 1) % 2 ^ 52 = n % 2 ^ 52 + 1 := by omega
    unfold doubleMagnitude
    rw [hq, hr]
    split
    · exact mul_lt_mul_of_pos_right (by push_cast; linarith) (unit _)
    · exact mul_lt_mul_of_pos_right (by push_cast; linarith) (unit _)

/-- The value of a pattern is its sign times its magnitude. -/
theorem doubleValue_eq (b : Double) : doubleValue b =
    if b.msb then -doubleMagnitude (b.toNat % 2 ^ 63) else doubleMagnitude (b.toNat % 2 ^ 63) := by
  have he : (b.extractLsb' 52 11).toNat = b.toNat % 2 ^ 63 / 2 ^ 52 := by
    simp only [BitVec.extractLsb'_toNat, Nat.shiftRight_eq_div_pow]
    omega
  have hf : (b.extractLsb' 0 52).toNat = b.toNat % 2 ^ 63 % 2 ^ 52 := by
    simp only [BitVec.extractLsb'_toNat, Nat.shiftRight_eq_div_pow]
    omega
  simp only [doubleValue, he, hf, doubleMagnitude]

/-- A pattern is finite when its low 63 bits are below those of the infinity. -/
theorem doubleFinite_iff (b : Double) : doubleFinite b = true ↔ b.toNat % 2 ^ 63 < 0x7FF * 2 ^ 52 := by
  have he : (b.extractLsb' 52 11).toNat = b.toNat % 2 ^ 63 / 2 ^ 52 := by
    simp only [BitVec.extractLsb'_toNat, Nat.shiftRight_eq_div_pow]
    omega
  rw [doubleFinite, bne_iff_ne, ne_eq, ← BitVec.toNat_inj, he]
  simp
  omega

/-- Between two finite patterns of different value and odd last bit lies a third. -/
theorem exists_double_between {b c : Double} (hc : doubleFinite c = true) (hb : doubleFinite b = true)
    (bo : b.getLsbD 0 = true) (co : c.getLsbD 0 = true) (h : doubleValue b < doubleValue c) :
    ∃ d, doubleFinite d = true ∧ doubleValue b < doubleValue d ∧ doubleValue d < doubleValue c := by
  have odd (x : Double) (hx : x.getLsbD 0 = true) : x.toNat % 2 = 1 := by
    simpa [BitVec.getLsbD, Nat.testBit_zero] using hx
  have pos (x : Double) (hx : x.getLsbD 0 = true) : 0 < doubleMagnitude (x.toNat % 2 ^ 63) := by
    have : doubleMagnitude 0 = 0 := by simp [doubleMagnitude]
    rw [← this]
    exact doubleMagnitude_strictMono (by have := odd x hx; omega)
  have bp := pos b bo
  have cp := pos c co
  have b1 := odd b bo
  have c1 := odd c co
  rw [doubleFinite_iff] at hb hc
  have value (n : Nat) (hn : n < 2 ^ 63) : doubleValue (BitVec.ofNat 64 n) = doubleMagnitude n ∧
      doubleValue (BitVec.ofNat 64 (2 ^ 63 + n)) = -doubleMagnitude n := by
    have m1 : (BitVec.ofNat 64 n).msb = false := by
      rw [BitVec.msb_eq_decide, BitVec.toNat_ofNat]; exact decide_eq_false (by omega)
    have m2 : (BitVec.ofNat 64 (2 ^ 63 + n)).msb = true := by
      rw [BitVec.msb_eq_decide, BitVec.toNat_ofNat]; exact decide_eq_true (by omega)
    rw [doubleValue_eq, doubleValue_eq, m1, m2, BitVec.toNat_ofNat, BitVec.toNat_ofNat,
      show n % 2 ^ 64 % 2 ^ 63 = n by omega, show (2 ^ 63 + n) % 2 ^ 64 % 2 ^ 63 = n by omega]
    simp
  have finite (n : Nat) (hn : n < 0x7FF * 2 ^ 52) : doubleFinite (BitVec.ofNat 64 n) = true ∧
      doubleFinite (BitVec.ofNat 64 (2 ^ 63 + n)) = true := by
    simp only [doubleFinite_iff, BitVec.toNat_ofNat]
    omega
  rw [doubleValue_eq b, doubleValue_eq c] at h ⊢
  cases hbm : b.msb <;> cases hcm : c.msb <;> simp only [hbm, hcm, if_true, if_false, Bool.false_eq_true] at h ⊢
  · have lt := doubleMagnitude_strictMono.lt_iff_lt.mp h
    refine ⟨BitVec.ofNat 64 (b.toNat % 2 ^ 63 + 1), (finite _ (by omega)).1, ?_⟩
    rw [(value _ (by omega)).1]
    exact ⟨doubleMagnitude_strictMono (by omega), doubleMagnitude_strictMono (by omega)⟩
  · linarith
  · refine ⟨0, by decide, ?_⟩
    have : doubleValue 0 = 0 := by simp [doubleValue]
    rw [this]
    exact ⟨by linarith, cp⟩
  · have lt := doubleMagnitude_strictMono.lt_iff_lt.mp (neg_lt_neg_iff.mp h)
    refine ⟨BitVec.ofNat 64 (2 ^ 63 + (c.toNat % 2 ^ 63 + 1)), (finite _ (by omega)).2, ?_⟩
    rw [(value _ (by omega)).2]
    exact ⟨neg_lt_neg (doubleMagnitude_strictMono (by omega)), neg_lt_neg (doubleMagnitude_strictMono (by omega))⟩

/-- A point strictly between two others is nearer to any centre than the farther of them. -/
theorem abs_sub_lt_of_between {x d y r : ℝ} (xd : x < d) (dy : d < y) : |d - r| < max |x - r| |y - r| := by
  rcases le_total r d with h | h
  · exact lt_max_of_lt_right (by rw [abs_of_nonneg (sub_nonneg.mpr h)]; exact lt_of_lt_of_le (by linarith) (le_abs_self _))
  · exact lt_max_of_lt_left (by rw [abs_of_nonpos (sub_nonpos.mpr h)]; exact lt_of_lt_of_le (by linarith) (neg_le_abs _))

/-- Every real number has a nearest finite pattern, ties to even. -/
theorem exists_nearest_double (r : ℝ) : ∃ b, IsNearestDouble (r : EReal) b := by
  let distance (b : Double) : ℝ := |(doubleValue b : ℝ) - r|
  have finite : {b : Double | doubleFinite b = true}.Finite :=
    (Set.finite_range (BitVec.ofFin (w := 64))).subset fun b _ => ⟨b.toFin, rfl⟩
  obtain ⟨b, hb, least⟩ := Set.exists_min_image _ distance finite ⟨0, by decide⟩
  simp only [Set.mem_ofPred_eq] at hb least
  by_cases even : ∃ e, doubleFinite e = true ∧ distance e = distance b ∧ e.getLsbD 0 = false
  · obtain ⟨e, he, same, ev⟩ := even
    refine ⟨e, .inr ⟨r, rfl, he, fun c hc _ => ?_⟩⟩
    rcases (least c hc).lt_or_eq with lt | eq
    · exact .inl (show distance e < distance c from same.trans_lt lt)
    · exact .inr ⟨same.trans eq, ev⟩
  · push Not at even
    have odd (e : Double) (he : doubleFinite e = true) (same : distance e = distance b) : e.getLsbD 0 = true := by
      simpa using even e he same
    have apart (x y : Double) (hx : doubleFinite x = true) (hy : doubleFinite y = true) (sx : distance x = distance b)
        (sy : distance y = distance b) : ¬ doubleValue x < doubleValue y := by
      intro lt
      obtain ⟨d, hd, xd, dy⟩ := exists_double_between hy hx (odd x hx sx) (odd y hy sy) lt
      have bd := least d hd
      have xd' : (doubleValue x : ℝ) < doubleValue d := by exact_mod_cast xd
      have dy' : (doubleValue d : ℝ) < doubleValue y := by exact_mod_cast dy
      have nearer : distance d < distance b := by
        have lower : distance d < max (distance x) (distance y) := abs_sub_lt_of_between xd' dy'
        rwa [sx, sy, max_self] at lower
      linarith
    refine ⟨b, .inr ⟨r, rfl, hb, fun c hc ne => ?_⟩⟩
    rcases (least c hc).lt_or_eq with lt | eq
    · exact .inl lt
    · rcases lt_or_gt_of_ne ne with lt | gt
      · exact absurd lt (apart c b hc hb eq.symm rfl)
      · exact absurd gt (apart b c hb hc rfl eq.symm)

/-- Parameters with the reference rounding exist, for any hardware limits (R177, D32). -/
theorem exists_reference_params (channels slots : Nat) :
    ∃ p : Config.Params, p.maxChannels = channels ∧ p.maxWindowSlots = slots ∧ UsesReferenceDb p := by
  have rms (sum div wsize : Nat) : ∃ b, ∀ x, IsRmsDb sum div wsize x → IsNearestDouble x b := by
    rcases Nat.eq_zero_or_pos sum with h | h
    · exact ⟨doubleNegInf, fun x hx => .inl (hx.elim (fun e => ⟨e.2, rfl⟩) fun e => absurd h e.1.ne')⟩
    · obtain ⟨b, hb⟩ := exists_nearest_double (10 * Real.logb 10 (Real.sqrt ((sum : ℝ) / div) / 2 ^ (wsize - 1)))
      exact ⟨b, fun x hx => hx.elim (fun e => absurd e.1 h.ne') fun e => e.2 ▸ hb⟩
  have peak (top wsize : Nat) : ∃ b, ∀ x, IsPeakDb top wsize x → IsNearestDouble x b := by
    rcases Nat.eq_zero_or_pos top with h | h
    · exact ⟨doubleNegInf, fun x hx => .inl (hx.elim (fun e => ⟨e.2, rfl⟩) fun e => absurd h e.1.ne')⟩
    · obtain ⟨b, hb⟩ := exists_nearest_double (10 * Real.logb 10 ((top : ℝ) / 2 ^ (wsize - 1)))
      exact ⟨b, fun x hx => hx.elim (fun e => absurd e.1 h.ne') fun e => e.2 ▸ hb⟩
  choose rmsDb hr using rms
  choose peakDb hp using peak
  exact ⟨⟨channels, slots, rmsDb, peakDb⟩, rfl, rfl, fun sum div wsize x _ _ hx => hr sum div wsize x hx,
    fun top wsize x _ hx => hp top wsize x hx⟩

end Sys2Proof.Machine
end

