-- ==== Sys2Proof/Laws/Fetch.lean ====
section
/-! SUPPORT. Reading what the host has sent: bytes sent before the rest are read before the rest, and nothing is lost. -/

namespace Sys2Proof.Machine

/-- Bytes sent first are the first bytes read. -/
theorem leadingBytes_append (bytes : List Byte) (after : List HostItem) : leadingBytes (bytes.map .byte ++ after) =
    (bytes ++ (leadingBytes after).1, (leadingBytes after).2) := by
  induction bytes with
  | nil => rfl
  | cons b bytes ih => simp [leadingBytes, ih]

/-- The bytes read and what follows them are what the host has sent. -/
theorem leadingBytes_parts (input : List HostItem) :
    (leadingBytes input).1.map .byte ++ (leadingBytes input).2 = input := by
  induction input with
  | nil => rfl
  | cons item input ih =>
    cases item with
    | byte b => simp [leadingBytes, ih]
    | reset => rfl

/-- What follows the bytes read is nothing or begins with a hardware reset. -/
theorem leadingBytes_rest (input : List HostItem) :
    (leadingBytes input).2 = [] ∨ ∃ after, (leadingBytes input).2 = .reset :: after := by
  induction input with
  | nil => exact .inl rfl
  | cons item input ih =>
    cases item with
    | byte b => simpa [leadingBytes] using ih
    | reset => exact .inr ⟨input, rfl⟩

end Sys2Proof.Machine
end

