-- ==== Sys2Proof/Laws/State.lean ====
section
/-! SUPPORT. One lemma per field per update of the state, so that no later proof unfolds a record update. -/

namespace Sys2Proof.Machine

variable (s : State)

/-! ## `respond` -/

@[simp] theorem State.respond_rate (code : Code) (data : Word) : (s.respond code data).rate = s.rate := rfl
@[simp] theorem State.respond_channels (code : Code) (data : Word) : (s.respond code data).channels = s.channels := rfl
@[simp] theorem State.respond_format (code : Code) (data : Word) : (s.respond code data).format = s.format := rfl
@[simp] theorem State.respond_windowLo (code : Code) (data : Word) : (s.respond code data).windowLo = s.windowLo := rfl
@[simp] theorem State.respond_windowHi (code : Code) (data : Word) : (s.respond code data).windowHi = s.windowHi := rfl
@[simp] theorem State.respond_observeLo (code : Code) (data : Word) : (s.respond code data).observeLo = s.observeLo := rfl
@[simp] theorem State.respond_observeHi (code : Code) (data : Word) : (s.respond code data).observeHi = s.observeHi := rfl
@[simp] theorem State.respond_phase (code : Code) (data : Word) : (s.respond code data).phase = s.phase := rfl
@[simp] theorem State.respond_mode (code : Code) (data : Word) : (s.respond code data).mode = s.mode := rfl
@[simp] theorem State.respond_frameBytes (code : Code) (data : Word) : (s.respond code data).frameBytes = s.frameBytes := rfl
@[simp] theorem State.respond_wordBytes (code : Code) (data : Word) : (s.respond code data).wordBytes = s.wordBytes := rfl
@[simp] theorem State.respond_wordMax (code : Code) (data : Word) : (s.respond code data).wordMax = s.wordMax := rfl
@[simp] theorem State.respond_N (code : Code) (data : Word) : (s.respond code data).N = s.N := rfl
@[simp] theorem State.respond_P (code : Code) (data : Word) : (s.respond code data).P = s.P := rfl
@[simp] theorem State.respond_pend (code : Code) (data : Word) : (s.respond code data).pend = s.pend := rfl
@[simp] theorem State.respond_buf (code : Code) (data : Word) : (s.respond code data).buf = s.buf := rfl
@[simp] theorem State.respond_pos (code : Code) (data : Word) : (s.respond code data).pos = s.pos := rfl
@[simp] theorem State.respond_fill (code : Code) (data : Word) : (s.respond code data).fill = s.fill := rfl
@[simp] theorem State.respond_sum (code : Code) (data : Word) : (s.respond code data).sum = s.sum := rfl
@[simp] theorem State.respond_peak (code : Code) (data : Word) : (s.respond code data).peak = s.peak := rfl
@[simp] theorem State.respond_countdown (code : Code) (data : Word) : (s.respond code data).countdown = s.countdown := rfl
@[simp] theorem State.respond_lastCode (code : Code) (data : Word) : (s.respond code data).lastCode = s.lastCode := rfl
@[simp] theorem State.respond_lockFault (code : Code) (data : Word) : (s.respond code data).lockFault = s.lockFault := rfl
@[simp] theorem State.respond_illegalFault (code : Code) (data : Word) : (s.respond code data).illegalFault = s.illegalFault := rfl
@[simp] theorem State.respond_result (code : Code) (data : Word) : (s.respond code data).result = s.result := rfl
@[simp] theorem State.respond_input (code : Code) (data : Word) : (s.respond code data).input = s.input := rfl
@[simp] theorem State.respond_out (code : Code) (data : Word) : (s.respond code data).out = s.out ++ [.response code data] := rfl
@[simp] theorem State.respond_bufEpoch (code : Code) (data : Word) : (s.respond code data).bufEpoch = s.bufEpoch := rfl

/-! ## `raiseError` -/

@[simp] theorem State.raiseError_rate (code : Code) : (s.raiseError code).rate = s.rate := rfl
@[simp] theorem State.raiseError_channels (code : Code) : (s.raiseError code).channels = s.channels := rfl
@[simp] theorem State.raiseError_format (code : Code) : (s.raiseError code).format = s.format := rfl
@[simp] theorem State.raiseError_windowLo (code : Code) : (s.raiseError code).windowLo = s.windowLo := rfl
@[simp] theorem State.raiseError_windowHi (code : Code) : (s.raiseError code).windowHi = s.windowHi := rfl
@[simp] theorem State.raiseError_observeLo (code : Code) : (s.raiseError code).observeLo = s.observeLo := rfl
@[simp] theorem State.raiseError_observeHi (code : Code) : (s.raiseError code).observeHi = s.observeHi := rfl
@[simp] theorem State.raiseError_phase (code : Code) : (s.raiseError code).phase = s.phase := rfl
@[simp] theorem State.raiseError_mode (code : Code) : (s.raiseError code).mode = s.mode := rfl
@[simp] theorem State.raiseError_frameBytes (code : Code) : (s.raiseError code).frameBytes = s.frameBytes := rfl
@[simp] theorem State.raiseError_wordBytes (code : Code) : (s.raiseError code).wordBytes = s.wordBytes := rfl
@[simp] theorem State.raiseError_wordMax (code : Code) : (s.raiseError code).wordMax = s.wordMax := rfl
@[simp] theorem State.raiseError_N (code : Code) : (s.raiseError code).N = s.N := rfl
@[simp] theorem State.raiseError_P (code : Code) : (s.raiseError code).P = s.P := rfl
@[simp] theorem State.raiseError_pend (code : Code) : (s.raiseError code).pend = s.pend := rfl
@[simp] theorem State.raiseError_buf (code : Code) : (s.raiseError code).buf = s.buf := rfl
@[simp] theorem State.raiseError_pos (code : Code) : (s.raiseError code).pos = s.pos := rfl
@[simp] theorem State.raiseError_fill (code : Code) : (s.raiseError code).fill = s.fill := rfl
@[simp] theorem State.raiseError_sum (code : Code) : (s.raiseError code).sum = s.sum := rfl
@[simp] theorem State.raiseError_peak (code : Code) : (s.raiseError code).peak = s.peak := rfl
@[simp] theorem State.raiseError_countdown (code : Code) : (s.raiseError code).countdown = s.countdown := rfl
@[simp] theorem State.raiseError_lastCode (code : Code) : (s.raiseError code).lastCode = s.lastCode := rfl
@[simp] theorem State.raiseError_lockFault (code : Code) : (s.raiseError code).lockFault = s.lockFault := rfl
@[simp] theorem State.raiseError_illegalFault (code : Code) : (s.raiseError code).illegalFault = s.illegalFault := rfl
@[simp] theorem State.raiseError_result (code : Code) : (s.raiseError code).result = s.result := rfl
@[simp] theorem State.raiseError_input (code : Code) : (s.raiseError code).input = s.input := rfl
@[simp] theorem State.raiseError_out (code : Code) : (s.raiseError code).out = s.out ++ [.response code 0] := rfl
@[simp] theorem State.raiseError_bufEpoch (code : Code) : (s.raiseError code).bufEpoch = s.bufEpoch := rfl

/-! ## `emit` -/

@[simp] theorem State.emit_rate (events : List Output) : (s.emit events).rate = s.rate := rfl
@[simp] theorem State.emit_channels (events : List Output) : (s.emit events).channels = s.channels := rfl
@[simp] theorem State.emit_format (events : List Output) : (s.emit events).format = s.format := rfl
@[simp] theorem State.emit_windowLo (events : List Output) : (s.emit events).windowLo = s.windowLo := rfl
@[simp] theorem State.emit_windowHi (events : List Output) : (s.emit events).windowHi = s.windowHi := rfl
@[simp] theorem State.emit_observeLo (events : List Output) : (s.emit events).observeLo = s.observeLo := rfl
@[simp] theorem State.emit_observeHi (events : List Output) : (s.emit events).observeHi = s.observeHi := rfl
@[simp] theorem State.emit_phase (events : List Output) : (s.emit events).phase = s.phase := rfl
@[simp] theorem State.emit_mode (events : List Output) : (s.emit events).mode = s.mode := rfl
@[simp] theorem State.emit_frameBytes (events : List Output) : (s.emit events).frameBytes = s.frameBytes := rfl
@[simp] theorem State.emit_wordBytes (events : List Output) : (s.emit events).wordBytes = s.wordBytes := rfl
@[simp] theorem State.emit_wordMax (events : List Output) : (s.emit events).wordMax = s.wordMax := rfl
@[simp] theorem State.emit_N (events : List Output) : (s.emit events).N = s.N := rfl
@[simp] theorem State.emit_P (events : List Output) : (s.emit events).P = s.P := rfl
@[simp] theorem State.emit_pend (events : List Output) : (s.emit events).pend = s.pend := rfl
@[simp] theorem State.emit_buf (events : List Output) : (s.emit events).buf = s.buf := rfl
@[simp] theorem State.emit_pos (events : List Output) : (s.emit events).pos = s.pos := rfl
@[simp] theorem State.emit_fill (events : List Output) : (s.emit events).fill = s.fill := rfl
@[simp] theorem State.emit_sum (events : List Output) : (s.emit events).sum = s.sum := rfl
@[simp] theorem State.emit_peak (events : List Output) : (s.emit events).peak = s.peak := rfl
@[simp] theorem State.emit_countdown (events : List Output) : (s.emit events).countdown = s.countdown := rfl
@[simp] theorem State.emit_lastCode (events : List Output) : (s.emit events).lastCode = s.lastCode := rfl
@[simp] theorem State.emit_lockFault (events : List Output) : (s.emit events).lockFault = s.lockFault := rfl
@[simp] theorem State.emit_illegalFault (events : List Output) : (s.emit events).illegalFault = s.illegalFault := rfl
@[simp] theorem State.emit_result (events : List Output) : (s.emit events).result = s.result := rfl
@[simp] theorem State.emit_input (events : List Output) : (s.emit events).input = s.input := rfl
@[simp] theorem State.emit_out (events : List Output) : (s.emit events).out = s.out ++ events := rfl
@[simp] theorem State.emit_bufEpoch (events : List Output) : (s.emit events).bufEpoch = s.bufEpoch := rfl

/-! ## `raiseLockFault` -/

@[simp] theorem State.raiseLockFault_rate : (s.raiseLockFault).rate = s.rate := rfl
@[simp] theorem State.raiseLockFault_channels : (s.raiseLockFault).channels = s.channels := rfl
@[simp] theorem State.raiseLockFault_format : (s.raiseLockFault).format = s.format := rfl
@[simp] theorem State.raiseLockFault_windowLo : (s.raiseLockFault).windowLo = s.windowLo := rfl
@[simp] theorem State.raiseLockFault_windowHi : (s.raiseLockFault).windowHi = s.windowHi := rfl
@[simp] theorem State.raiseLockFault_observeLo : (s.raiseLockFault).observeLo = s.observeLo := rfl
@[simp] theorem State.raiseLockFault_observeHi : (s.raiseLockFault).observeHi = s.observeHi := rfl
@[simp] theorem State.raiseLockFault_phase : (s.raiseLockFault).phase = s.phase := rfl
@[simp] theorem State.raiseLockFault_mode : (s.raiseLockFault).mode = s.mode := rfl
@[simp] theorem State.raiseLockFault_frameBytes : (s.raiseLockFault).frameBytes = s.frameBytes := rfl
@[simp] theorem State.raiseLockFault_wordBytes : (s.raiseLockFault).wordBytes = s.wordBytes := rfl
@[simp] theorem State.raiseLockFault_wordMax : (s.raiseLockFault).wordMax = s.wordMax := rfl
@[simp] theorem State.raiseLockFault_N : (s.raiseLockFault).N = s.N := rfl
@[simp] theorem State.raiseLockFault_P : (s.raiseLockFault).P = s.P := rfl
@[simp] theorem State.raiseLockFault_pend : (s.raiseLockFault).pend = s.pend := rfl
@[simp] theorem State.raiseLockFault_buf : (s.raiseLockFault).buf = s.buf := rfl
@[simp] theorem State.raiseLockFault_pos : (s.raiseLockFault).pos = s.pos := rfl
@[simp] theorem State.raiseLockFault_fill : (s.raiseLockFault).fill = s.fill := rfl
@[simp] theorem State.raiseLockFault_sum : (s.raiseLockFault).sum = s.sum := rfl
@[simp] theorem State.raiseLockFault_peak : (s.raiseLockFault).peak = s.peak := rfl
@[simp] theorem State.raiseLockFault_countdown : (s.raiseLockFault).countdown = s.countdown := rfl
@[simp] theorem State.raiseLockFault_lastCode : (s.raiseLockFault).lastCode = s.lastCode := rfl
@[simp] theorem State.raiseLockFault_lockFault : (s.raiseLockFault).lockFault = true := rfl
@[simp] theorem State.raiseLockFault_illegalFault : (s.raiseLockFault).illegalFault = s.illegalFault := rfl
@[simp] theorem State.raiseLockFault_result : (s.raiseLockFault).result = s.result := rfl
@[simp] theorem State.raiseLockFault_input : (s.raiseLockFault).input = s.input := rfl
@[simp] theorem State.raiseLockFault_out : (s.raiseLockFault).out = s.out := rfl
@[simp] theorem State.raiseLockFault_bufEpoch : (s.raiseLockFault).bufEpoch = s.bufEpoch := rfl

/-! ## `raiseIllegalFault` -/

@[simp] theorem State.raiseIllegalFault_rate : (s.raiseIllegalFault).rate = s.rate := rfl
@[simp] theorem State.raiseIllegalFault_channels : (s.raiseIllegalFault).channels = s.channels := rfl
@[simp] theorem State.raiseIllegalFault_format : (s.raiseIllegalFault).format = s.format := rfl
@[simp] theorem State.raiseIllegalFault_windowLo : (s.raiseIllegalFault).windowLo = s.windowLo := rfl
@[simp] theorem State.raiseIllegalFault_windowHi : (s.raiseIllegalFault).windowHi = s.windowHi := rfl
@[simp] theorem State.raiseIllegalFault_observeLo : (s.raiseIllegalFault).observeLo = s.observeLo := rfl
@[simp] theorem State.raiseIllegalFault_observeHi : (s.raiseIllegalFault).observeHi = s.observeHi := rfl
@[simp] theorem State.raiseIllegalFault_phase : (s.raiseIllegalFault).phase = s.phase := rfl
@[simp] theorem State.raiseIllegalFault_mode : (s.raiseIllegalFault).mode = s.mode := rfl
@[simp] theorem State.raiseIllegalFault_frameBytes : (s.raiseIllegalFault).frameBytes = s.frameBytes := rfl
@[simp] theorem State.raiseIllegalFault_wordBytes : (s.raiseIllegalFault).wordBytes = s.wordBytes := rfl
@[simp] theorem State.raiseIllegalFault_wordMax : (s.raiseIllegalFault).wordMax = s.wordMax := rfl
@[simp] theorem State.raiseIllegalFault_N : (s.raiseIllegalFault).N = s.N := rfl
@[simp] theorem State.raiseIllegalFault_P : (s.raiseIllegalFault).P = s.P := rfl
@[simp] theorem State.raiseIllegalFault_pend : (s.raiseIllegalFault).pend = s.pend := rfl
@[simp] theorem State.raiseIllegalFault_buf : (s.raiseIllegalFault).buf = s.buf := rfl
@[simp] theorem State.raiseIllegalFault_pos : (s.raiseIllegalFault).pos = s.pos := rfl
@[simp] theorem State.raiseIllegalFault_fill : (s.raiseIllegalFault).fill = s.fill := rfl
@[simp] theorem State.raiseIllegalFault_sum : (s.raiseIllegalFault).sum = s.sum := rfl
@[simp] theorem State.raiseIllegalFault_peak : (s.raiseIllegalFault).peak = s.peak := rfl
@[simp] theorem State.raiseIllegalFault_countdown : (s.raiseIllegalFault).countdown = s.countdown := rfl
@[simp] theorem State.raiseIllegalFault_lastCode : (s.raiseIllegalFault).lastCode = s.lastCode := rfl
@[simp] theorem State.raiseIllegalFault_lockFault : (s.raiseIllegalFault).lockFault = s.lockFault := rfl
@[simp] theorem State.raiseIllegalFault_illegalFault : (s.raiseIllegalFault).illegalFault = true := rfl
@[simp] theorem State.raiseIllegalFault_result : (s.raiseIllegalFault).result = s.result := rfl
@[simp] theorem State.raiseIllegalFault_input : (s.raiseIllegalFault).input = s.input := rfl
@[simp] theorem State.raiseIllegalFault_out : (s.raiseIllegalFault).out = s.out := rfl
@[simp] theorem State.raiseIllegalFault_bufEpoch : (s.raiseIllegalFault).bufEpoch = s.bufEpoch := rfl

/-! ## `writeSlot` -/

@[simp] theorem State.writeSlot_rate (slot : Nat) (q : Square) : (s.writeSlot slot q).rate = s.rate := rfl
@[simp] theorem State.writeSlot_channels (slot : Nat) (q : Square) : (s.writeSlot slot q).channels = s.channels := rfl
@[simp] theorem State.writeSlot_format (slot : Nat) (q : Square) : (s.writeSlot slot q).format = s.format := rfl
@[simp] theorem State.writeSlot_windowLo (slot : Nat) (q : Square) : (s.writeSlot slot q).windowLo = s.windowLo := rfl
@[simp] theorem State.writeSlot_windowHi (slot : Nat) (q : Square) : (s.writeSlot slot q).windowHi = s.windowHi := rfl
@[simp] theorem State.writeSlot_observeLo (slot : Nat) (q : Square) : (s.writeSlot slot q).observeLo = s.observeLo := rfl
@[simp] theorem State.writeSlot_observeHi (slot : Nat) (q : Square) : (s.writeSlot slot q).observeHi = s.observeHi := rfl
@[simp] theorem State.writeSlot_phase (slot : Nat) (q : Square) : (s.writeSlot slot q).phase = s.phase := rfl
@[simp] theorem State.writeSlot_mode (slot : Nat) (q : Square) : (s.writeSlot slot q).mode = s.mode := rfl
@[simp] theorem State.writeSlot_frameBytes (slot : Nat) (q : Square) : (s.writeSlot slot q).frameBytes = s.frameBytes := rfl
@[simp] theorem State.writeSlot_wordBytes (slot : Nat) (q : Square) : (s.writeSlot slot q).wordBytes = s.wordBytes := rfl
@[simp] theorem State.writeSlot_wordMax (slot : Nat) (q : Square) : (s.writeSlot slot q).wordMax = s.wordMax := rfl
@[simp] theorem State.writeSlot_N (slot : Nat) (q : Square) : (s.writeSlot slot q).N = s.N := rfl
@[simp] theorem State.writeSlot_P (slot : Nat) (q : Square) : (s.writeSlot slot q).P = s.P := rfl
@[simp] theorem State.writeSlot_pend (slot : Nat) (q : Square) : (s.writeSlot slot q).pend = s.pend := rfl
@[simp] theorem State.writeSlot_buf (slot : Nat) (q : Square) : (s.writeSlot slot q).buf = s.buf.write slot q := rfl
@[simp] theorem State.writeSlot_pos (slot : Nat) (q : Square) : (s.writeSlot slot q).pos = s.pos := rfl
@[simp] theorem State.writeSlot_fill (slot : Nat) (q : Square) : (s.writeSlot slot q).fill = s.fill := rfl
@[simp] theorem State.writeSlot_sum (slot : Nat) (q : Square) : (s.writeSlot slot q).sum = s.sum := rfl
@[simp] theorem State.writeSlot_peak (slot : Nat) (q : Square) : (s.writeSlot slot q).peak = s.peak := rfl
@[simp] theorem State.writeSlot_countdown (slot : Nat) (q : Square) : (s.writeSlot slot q).countdown = s.countdown := rfl
@[simp] theorem State.writeSlot_lastCode (slot : Nat) (q : Square) : (s.writeSlot slot q).lastCode = s.lastCode := rfl
@[simp] theorem State.writeSlot_lockFault (slot : Nat) (q : Square) : (s.writeSlot slot q).lockFault = s.lockFault := rfl
@[simp] theorem State.writeSlot_illegalFault (slot : Nat) (q : Square) : (s.writeSlot slot q).illegalFault = s.illegalFault := rfl
@[simp] theorem State.writeSlot_result (slot : Nat) (q : Square) : (s.writeSlot slot q).result = s.result := rfl
@[simp] theorem State.writeSlot_input (slot : Nat) (q : Square) : (s.writeSlot slot q).input = s.input := rfl
@[simp] theorem State.writeSlot_out (slot : Nat) (q : Square) : (s.writeSlot slot q).out = s.out := rfl
@[simp] theorem State.writeSlot_bufEpoch (slot : Nat) (q : Square) : (s.writeSlot slot q).bufEpoch = s.bufEpoch := rfl

/-! ## `peakFold` -/

@[simp] theorem State.peakFold_rate (x : Int) : (s.peakFold x).rate = s.rate := rfl
@[simp] theorem State.peakFold_channels (x : Int) : (s.peakFold x).channels = s.channels := rfl
@[simp] theorem State.peakFold_format (x : Int) : (s.peakFold x).format = s.format := rfl
@[simp] theorem State.peakFold_windowLo (x : Int) : (s.peakFold x).windowLo = s.windowLo := rfl
@[simp] theorem State.peakFold_windowHi (x : Int) : (s.peakFold x).windowHi = s.windowHi := rfl
@[simp] theorem State.peakFold_observeLo (x : Int) : (s.peakFold x).observeLo = s.observeLo := rfl
@[simp] theorem State.peakFold_observeHi (x : Int) : (s.peakFold x).observeHi = s.observeHi := rfl
@[simp] theorem State.peakFold_phase (x : Int) : (s.peakFold x).phase = s.phase := rfl
@[simp] theorem State.peakFold_mode (x : Int) : (s.peakFold x).mode = s.mode := rfl
@[simp] theorem State.peakFold_frameBytes (x : Int) : (s.peakFold x).frameBytes = s.frameBytes := rfl
@[simp] theorem State.peakFold_wordBytes (x : Int) : (s.peakFold x).wordBytes = s.wordBytes := rfl
@[simp] theorem State.peakFold_wordMax (x : Int) : (s.peakFold x).wordMax = s.wordMax := rfl
@[simp] theorem State.peakFold_N (x : Int) : (s.peakFold x).N = s.N := rfl
@[simp] theorem State.peakFold_P (x : Int) : (s.peakFold x).P = s.P := rfl
@[simp] theorem State.peakFold_pend (x : Int) : (s.peakFold x).pend = s.pend := rfl
@[simp] theorem State.peakFold_buf (x : Int) : (s.peakFold x).buf = s.buf := rfl
@[simp] theorem State.peakFold_pos (x : Int) : (s.peakFold x).pos = s.pos := rfl
@[simp] theorem State.peakFold_fill (x : Int) : (s.peakFold x).fill = s.fill := rfl
@[simp] theorem State.peakFold_sum (x : Int) : (s.peakFold x).sum = s.sum := rfl
@[simp] theorem State.peakFold_peak (x : Int) : (s.peakFold x).peak = BitVec.ofNat 64 (max s.peak.toNat x.natAbs) := rfl
@[simp] theorem State.peakFold_countdown (x : Int) : (s.peakFold x).countdown = s.countdown := rfl
@[simp] theorem State.peakFold_lastCode (x : Int) : (s.peakFold x).lastCode = s.lastCode := rfl
@[simp] theorem State.peakFold_lockFault (x : Int) : (s.peakFold x).lockFault = s.lockFault := rfl
@[simp] theorem State.peakFold_illegalFault (x : Int) : (s.peakFold x).illegalFault = s.illegalFault := rfl
@[simp] theorem State.peakFold_result (x : Int) : (s.peakFold x).result = s.result := rfl
@[simp] theorem State.peakFold_input (x : Int) : (s.peakFold x).input = s.input := rfl
@[simp] theorem State.peakFold_out (x : Int) : (s.peakFold x).out = s.out := rfl
@[simp] theorem State.peakFold_bufEpoch (x : Int) : (s.peakFold x).bufEpoch = s.bufEpoch := rfl

/-! ## `performReset` -/

@[simp] theorem State.performReset_rate : (s.performReset).rate = State.reset.rate := rfl
@[simp] theorem State.performReset_channels : (s.performReset).channels = State.reset.channels := rfl
@[simp] theorem State.performReset_format : (s.performReset).format = State.reset.format := rfl
@[simp] theorem State.performReset_windowLo : (s.performReset).windowLo = State.reset.windowLo := rfl
@[simp] theorem State.performReset_windowHi : (s.performReset).windowHi = State.reset.windowHi := rfl
@[simp] theorem State.performReset_observeLo : (s.performReset).observeLo = State.reset.observeLo := rfl
@[simp] theorem State.performReset_observeHi : (s.performReset).observeHi = State.reset.observeHi := rfl
@[simp] theorem State.performReset_phase : (s.performReset).phase = State.reset.phase := rfl
@[simp] theorem State.performReset_mode : (s.performReset).mode = State.reset.mode := rfl
@[simp] theorem State.performReset_frameBytes : (s.performReset).frameBytes = State.reset.frameBytes := rfl
@[simp] theorem State.performReset_wordBytes : (s.performReset).wordBytes = State.reset.wordBytes := rfl
@[simp] theorem State.performReset_wordMax : (s.performReset).wordMax = State.reset.wordMax := rfl
@[simp] theorem State.performReset_N : (s.performReset).N = State.reset.N := rfl
@[simp] theorem State.performReset_P : (s.performReset).P = State.reset.P := rfl
@[simp] theorem State.performReset_pend : (s.performReset).pend = State.reset.pend := rfl
@[simp] theorem State.performReset_buf : (s.performReset).buf = State.reset.buf := rfl
@[simp] theorem State.performReset_pos : (s.performReset).pos = State.reset.pos := rfl
@[simp] theorem State.performReset_fill : (s.performReset).fill = State.reset.fill := rfl
@[simp] theorem State.performReset_sum : (s.performReset).sum = State.reset.sum := rfl
@[simp] theorem State.performReset_peak : (s.performReset).peak = State.reset.peak := rfl
@[simp] theorem State.performReset_countdown : (s.performReset).countdown = State.reset.countdown := rfl
@[simp] theorem State.performReset_lastCode : (s.performReset).lastCode = State.reset.lastCode := rfl
@[simp] theorem State.performReset_lockFault : (s.performReset).lockFault = State.reset.lockFault := rfl
@[simp] theorem State.performReset_illegalFault : (s.performReset).illegalFault = State.reset.illegalFault := rfl
@[simp] theorem State.performReset_result : (s.performReset).result = State.reset.result := rfl
@[simp] theorem State.performReset_input : (s.performReset).input = s.input := rfl
@[simp] theorem State.performReset_out : (s.performReset).out = s.out := rfl
@[simp] theorem State.performReset_bufEpoch : (s.performReset).bufEpoch = s.bufEpoch + 1 := rfl

end Sys2Proof.Machine
end

