-- ==== Sys2Proof/Laws/Memory.lean ====
section
/-! SUPPORT. The circular buffer: a read after a write to the same slot gives the square written, a write leaves every other
slot alone, and every operation keeps the canonical form. -/

namespace Sys2Proof.Machine

@[simp] theorem Memory.find?_nil (slot : Nat) : Memory.find? [] slot = none := rfl

theorem Memory.find?_cons (j : Nat) (r : Square) (m : Memory) (slot : Nat) :
    Memory.find? ((j, r) :: m) slot = if j = slot then some r else m.find? slot := rfl

@[simp] theorem Memory.find?_write_same (m : Memory) (slot : Nat) (q : Square) :
    (m.write slot q).find? slot = some q := by
  induction m with
  | nil => simp [Memory.write, Memory.find?_cons]
  | cons e m ih =>
    obtain ⟨j, r⟩ := e
    simp only [Memory.write]
    split
    · simp [Memory.find?_cons]
    · split
      · simp [Memory.find?_cons]
      · rw [Memory.find?_cons, if_neg (by omega), ih]

theorem Memory.find?_write_other (m : Memory) {slot other : Nat} (q : Square) (h : other ≠ slot) :
    (m.write slot q).find? other = m.find? other := by
  induction m with
  | nil => simp [Memory.write, Memory.find?_cons, h.symm]
  | cons e m ih =>
    obtain ⟨j, r⟩ := e
    simp only [Memory.write]
    split
    · simp [Memory.find?_cons, h.symm]
    · split
      · next hj => subst hj; simp [Memory.find?_cons, h.symm]
      · simp only [Memory.find?_cons, ih]

/-- The slots listed after a write are those before it and the one written. -/
theorem Memory.mem_write_fst (m : Memory) (slot : Nat) (q : Square) (e : Nat × Square) (he : e ∈ m.write slot q) :
    e = (slot, q) ∨ e ∈ m := by
  induction m with
  | nil => simpa [Memory.write] using he
  | cons d m ih =>
    obtain ⟨j, r⟩ := d
    simp only [Memory.write] at he
    split at he
    · simpa using he
    · split at he <;> simp only [List.mem_cons] at he ⊢ <;> tauto

/-- A write keeps the canonical form. -/
theorem Memory.write_wf {m : Memory} (h : m.wf) (slot : Nat) (q : Square) : (m.write slot q).wf := by
  induction m with
  | nil => simp [Memory.write]
  | cons e m ih =>
    obtain ⟨j, r⟩ := e
    obtain ⟨hj, hm⟩ := List.pairwise_cons.mp h
    simp only [Memory.write]
    split
    · refine List.pairwise_cons.mpr ⟨?_, h⟩
      intro d hd
      rcases List.mem_cons.mp hd with rfl | hd
      · assumption
      · have := hj d hd
        simp only at this ⊢
        omega
    · split
      · next heq => subst heq; exact List.pairwise_cons.mpr ⟨hj, hm⟩
      · refine List.pairwise_cons.mpr ⟨?_, ih hm⟩
        intro d hd
        rcases Memory.mem_write_fst m slot q d hd with rfl | hd
        · simp only; omega
        · exact hj d hd

theorem State.reset_buf_wf : State.reset.buf.wf := List.Pairwise.nil

@[simp] theorem State.readSlot_writeSlot_same (s : State) (slot : Nat) (q : Square) :
    (s.writeSlot slot q).readSlot slot = q := by
  simp [State.readSlot]

theorem State.readSlot_writeSlot_other (s : State) {slot other : Nat} (q : Square) (h : other ≠ slot) :
    (s.writeSlot slot q).readSlot other = s.readSlot other := by
  simp [State.readSlot, Memory.find?_write_other _ q h]

/-- A slot reads as it is listed. -/
theorem State.readSlot_of_find? {s : State} {slot : Nat} {q : Square} (h : s.buf.find? slot = some q) :
    s.readSlot slot = q := by
  simp [State.readSlot, h]

end Sys2Proof.Machine
end

