-- ==== Sys2Proof/Laws/PerInstr.lean ====
section
/-! SUPPORT. Statements about every transaction, one lemma per constructor. -/

namespace Sys2Proof.Laws

/-- These are the bytes of the transaction, a header whose form decides what follows it: four DATA bytes after a REG_WRITE,
nothing after a REG_READ or an illegal header, LEN and the payload after a WRITE. -/
def HeaderDecidesLength.Shape (i : Instr) (bytes : List Byte) : Prop :=
  ∃ header rest, bytes = bytesOfWord header ++ rest ∧
    match classify header with
    | .regWrite _ => ∃ v, rest = bytesOfWord v
    | .regRead _ => rest = []
    | .write => ∃ payload, i = .write payload ∧ rest = bytesOfWord (BitVec.ofNat 32 payload.length) ++ payload
    | .illegal => rest = []

/-- The header of a well-formed transaction decides its length (30_encoding.md R67 to R69, R71, R75). -/
def HeaderDecidesLength.Statement (i : Instr) : Prop :=
  i.wf = true → HeaderDecidesLength.Shape i (encode i)

theorem HeaderDecidesLength.ofRegWrite {off : Byte} (h : off.toNat % 4 = 0) (v : Word) {i : Instr} :
    HeaderDecidesLength.Shape i (encodeRegWrite off v) :=
  ⟨_, _, rfl, by rw [classify_regWrite h]; exact ⟨v, rfl⟩⟩

theorem HeaderDecidesLength.ofRegRead {off : Byte} (h : off.toNat % 4 = 0) {i : Instr} :
    HeaderDecidesLength.Shape i (encodeRegRead off) :=
  ⟨_, [], (List.append_nil _).symm, by rw [classify_regRead h]⟩

theorem HeaderDecidesLength.aligned_of_reservedHigh {off : Byte} (h : reservedHighOffset off = true) :
    off.toNat % 4 = 0 := by
  simp only [reservedHighOffset, Bool.and_eq_true, beq_iff_eq] at h
  exact h.2

theorem HeaderDecidesLength.wrRate (v : Word) : HeaderDecidesLength.Statement (.wrRate v) := fun _ => HeaderDecidesLength.ofRegWrite (by decide) v

theorem HeaderDecidesLength.wrChannels (v : Word) : HeaderDecidesLength.Statement (.wrChannels v) := fun _ => HeaderDecidesLength.ofRegWrite (by decide) v

theorem HeaderDecidesLength.wrFormat (v : Word) : HeaderDecidesLength.Statement (.wrFormat v) := fun _ => HeaderDecidesLength.ofRegWrite (by decide) v

theorem HeaderDecidesLength.wrWindowLo (v : Word) : HeaderDecidesLength.Statement (.wrWindowLo v) := fun _ => HeaderDecidesLength.ofRegWrite (by decide) v

theorem HeaderDecidesLength.wrWindowHi (v : Word) : HeaderDecidesLength.Statement (.wrWindowHi v) := fun _ => HeaderDecidesLength.ofRegWrite (by decide) v

theorem HeaderDecidesLength.wrObserveLo (v : Word) : HeaderDecidesLength.Statement (.wrObserveLo v) := fun _ => HeaderDecidesLength.ofRegWrite (by decide) v

theorem HeaderDecidesLength.wrObserveHi (v : Word) : HeaderDecidesLength.Statement (.wrObserveHi v) := fun _ => HeaderDecidesLength.ofRegWrite (by decide) v

theorem HeaderDecidesLength.wrStatus (v : Word) : HeaderDecidesLength.Statement (.wrStatus v) := fun _ => HeaderDecidesLength.ofRegWrite (by decide) v

theorem HeaderDecidesLength.wrResult (v : Word) : HeaderDecidesLength.Statement (.wrResult v) := fun _ => HeaderDecidesLength.ofRegWrite (by decide) v

theorem HeaderDecidesLength.wrCtrl (v : Word) : HeaderDecidesLength.Statement (.wrCtrl v) := fun _ => HeaderDecidesLength.ofRegWrite (by decide) v

theorem HeaderDecidesLength.wrPeriodLo (v : Word) : HeaderDecidesLength.Statement (.wrPeriodLo v) := fun _ => HeaderDecidesLength.ofRegWrite (by decide) v

theorem HeaderDecidesLength.wrPeriodHi (v : Word) : HeaderDecidesLength.Statement (.wrPeriodHi v) := fun _ => HeaderDecidesLength.ofRegWrite (by decide) v

theorem HeaderDecidesLength.wrWsampLo (v : Word) : HeaderDecidesLength.Statement (.wrWsampLo v) := fun _ => HeaderDecidesLength.ofRegWrite (by decide) v

theorem HeaderDecidesLength.wrWsampHi (v : Word) : HeaderDecidesLength.Statement (.wrWsampHi v) := fun _ => HeaderDecidesLength.ofRegWrite (by decide) v

theorem HeaderDecidesLength.wrCountLo (v : Word) : HeaderDecidesLength.Statement (.wrCountLo v) := fun _ => HeaderDecidesLength.ofRegWrite (by decide) v

theorem HeaderDecidesLength.wrCountHi (v : Word) : HeaderDecidesLength.Statement (.wrCountHi v) := fun _ => HeaderDecidesLength.ofRegWrite (by decide) v

theorem HeaderDecidesLength.wrFillLo (v : Word) : HeaderDecidesLength.Statement (.wrFillLo v) := fun _ => HeaderDecidesLength.ofRegWrite (by decide) v

theorem HeaderDecidesLength.wrFillHi (v : Word) : HeaderDecidesLength.Statement (.wrFillHi v) := fun _ => HeaderDecidesLength.ofRegWrite (by decide) v

theorem HeaderDecidesLength.wrPeakLo (v : Word) : HeaderDecidesLength.Statement (.wrPeakLo v) := fun _ => HeaderDecidesLength.ofRegWrite (by decide) v

theorem HeaderDecidesLength.wrPeakHi (v : Word) : HeaderDecidesLength.Statement (.wrPeakHi v) := fun _ => HeaderDecidesLength.ofRegWrite (by decide) v

theorem HeaderDecidesLength.wrPend (v : Word) : HeaderDecidesLength.Statement (.wrPend v) := fun _ => HeaderDecidesLength.ofRegWrite (by decide) v

theorem HeaderDecidesLength.wrPosLo (v : Word) : HeaderDecidesLength.Statement (.wrPosLo v) := fun _ => HeaderDecidesLength.ofRegWrite (by decide) v

theorem HeaderDecidesLength.wrPosHi (v : Word) : HeaderDecidesLength.Statement (.wrPosHi v) := fun _ => HeaderDecidesLength.ofRegWrite (by decide) v

theorem HeaderDecidesLength.wrSum0 (v : Word) : HeaderDecidesLength.Statement (.wrSum0 v) := fun _ => HeaderDecidesLength.ofRegWrite (by decide) v

theorem HeaderDecidesLength.wrSum1 (v : Word) : HeaderDecidesLength.Statement (.wrSum1 v) := fun _ => HeaderDecidesLength.ofRegWrite (by decide) v

theorem HeaderDecidesLength.wrSum2 (v : Word) : HeaderDecidesLength.Statement (.wrSum2 v) := fun _ => HeaderDecidesLength.ofRegWrite (by decide) v

theorem HeaderDecidesLength.wrSum3 (v : Word) : HeaderDecidesLength.Statement (.wrSum3 v) := fun _ => HeaderDecidesLength.ofRegWrite (by decide) v

theorem HeaderDecidesLength.wrSum4 (v : Word) : HeaderDecidesLength.Statement (.wrSum4 v) := fun _ => HeaderDecidesLength.ofRegWrite (by decide) v

theorem HeaderDecidesLength.wrSum5 (v : Word) : HeaderDecidesLength.Statement (.wrSum5 v) := fun _ => HeaderDecidesLength.ofRegWrite (by decide) v

theorem HeaderDecidesLength.wrReserved5C (v : Word) : HeaderDecidesLength.Statement (.wrReserved5C v) := fun _ => HeaderDecidesLength.ofRegWrite (by decide) v

theorem HeaderDecidesLength.wrReserved78 (v : Word) : HeaderDecidesLength.Statement (.wrReserved78 v) := fun _ => HeaderDecidesLength.ofRegWrite (by decide) v

theorem HeaderDecidesLength.wrReserved7C (v : Word) : HeaderDecidesLength.Statement (.wrReserved7C v) := fun _ => HeaderDecidesLength.ofRegWrite (by decide) v

theorem HeaderDecidesLength.wrReservedHigh (off : Byte) (v : Word) : HeaderDecidesLength.Statement (.wrReservedHigh off v) :=
  fun h => HeaderDecidesLength.ofRegWrite (HeaderDecidesLength.aligned_of_reservedHigh h) v

theorem HeaderDecidesLength.rdRate : HeaderDecidesLength.Statement .rdRate := fun _ => HeaderDecidesLength.ofRegRead (by decide)

theorem HeaderDecidesLength.rdChannels : HeaderDecidesLength.Statement .rdChannels := fun _ => HeaderDecidesLength.ofRegRead (by decide)

theorem HeaderDecidesLength.rdFormat : HeaderDecidesLength.Statement .rdFormat := fun _ => HeaderDecidesLength.ofRegRead (by decide)

theorem HeaderDecidesLength.rdWindowLo : HeaderDecidesLength.Statement .rdWindowLo := fun _ => HeaderDecidesLength.ofRegRead (by decide)

theorem HeaderDecidesLength.rdWindowHi : HeaderDecidesLength.Statement .rdWindowHi := fun _ => HeaderDecidesLength.ofRegRead (by decide)

theorem HeaderDecidesLength.rdObserveLo : HeaderDecidesLength.Statement .rdObserveLo := fun _ => HeaderDecidesLength.ofRegRead (by decide)

theorem HeaderDecidesLength.rdObserveHi : HeaderDecidesLength.Statement .rdObserveHi := fun _ => HeaderDecidesLength.ofRegRead (by decide)

theorem HeaderDecidesLength.rdStatus : HeaderDecidesLength.Statement .rdStatus := fun _ => HeaderDecidesLength.ofRegRead (by decide)

theorem HeaderDecidesLength.rdResult : HeaderDecidesLength.Statement .rdResult := fun _ => HeaderDecidesLength.ofRegRead (by decide)

theorem HeaderDecidesLength.rdCtrl : HeaderDecidesLength.Statement .rdCtrl := fun _ => HeaderDecidesLength.ofRegRead (by decide)

theorem HeaderDecidesLength.rdPeriodLo : HeaderDecidesLength.Statement .rdPeriodLo := fun _ => HeaderDecidesLength.ofRegRead (by decide)

theorem HeaderDecidesLength.rdPeriodHi : HeaderDecidesLength.Statement .rdPeriodHi := fun _ => HeaderDecidesLength.ofRegRead (by decide)

theorem HeaderDecidesLength.rdWsampLo : HeaderDecidesLength.Statement .rdWsampLo := fun _ => HeaderDecidesLength.ofRegRead (by decide)

theorem HeaderDecidesLength.rdWsampHi : HeaderDecidesLength.Statement .rdWsampHi := fun _ => HeaderDecidesLength.ofRegRead (by decide)

theorem HeaderDecidesLength.rdCountLo : HeaderDecidesLength.Statement .rdCountLo := fun _ => HeaderDecidesLength.ofRegRead (by decide)

theorem HeaderDecidesLength.rdCountHi : HeaderDecidesLength.Statement .rdCountHi := fun _ => HeaderDecidesLength.ofRegRead (by decide)

theorem HeaderDecidesLength.rdFillLo : HeaderDecidesLength.Statement .rdFillLo := fun _ => HeaderDecidesLength.ofRegRead (by decide)

theorem HeaderDecidesLength.rdFillHi : HeaderDecidesLength.Statement .rdFillHi := fun _ => HeaderDecidesLength.ofRegRead (by decide)

theorem HeaderDecidesLength.rdPeakLo : HeaderDecidesLength.Statement .rdPeakLo := fun _ => HeaderDecidesLength.ofRegRead (by decide)

theorem HeaderDecidesLength.rdPeakHi : HeaderDecidesLength.Statement .rdPeakHi := fun _ => HeaderDecidesLength.ofRegRead (by decide)

theorem HeaderDecidesLength.rdPend : HeaderDecidesLength.Statement .rdPend := fun _ => HeaderDecidesLength.ofRegRead (by decide)

theorem HeaderDecidesLength.rdPosLo : HeaderDecidesLength.Statement .rdPosLo := fun _ => HeaderDecidesLength.ofRegRead (by decide)

theorem HeaderDecidesLength.rdPosHi : HeaderDecidesLength.Statement .rdPosHi := fun _ => HeaderDecidesLength.ofRegRead (by decide)

theorem HeaderDecidesLength.rdSum0 : HeaderDecidesLength.Statement .rdSum0 := fun _ => HeaderDecidesLength.ofRegRead (by decide)

theorem HeaderDecidesLength.rdSum1 : HeaderDecidesLength.Statement .rdSum1 := fun _ => HeaderDecidesLength.ofRegRead (by decide)

theorem HeaderDecidesLength.rdSum2 : HeaderDecidesLength.Statement .rdSum2 := fun _ => HeaderDecidesLength.ofRegRead (by decide)

theorem HeaderDecidesLength.rdSum3 : HeaderDecidesLength.Statement .rdSum3 := fun _ => HeaderDecidesLength.ofRegRead (by decide)

theorem HeaderDecidesLength.rdSum4 : HeaderDecidesLength.Statement .rdSum4 := fun _ => HeaderDecidesLength.ofRegRead (by decide)

theorem HeaderDecidesLength.rdSum5 : HeaderDecidesLength.Statement .rdSum5 := fun _ => HeaderDecidesLength.ofRegRead (by decide)

theorem HeaderDecidesLength.rdReserved5C : HeaderDecidesLength.Statement .rdReserved5C := fun _ => HeaderDecidesLength.ofRegRead (by decide)

theorem HeaderDecidesLength.rdReserved78 : HeaderDecidesLength.Statement .rdReserved78 := fun _ => HeaderDecidesLength.ofRegRead (by decide)

theorem HeaderDecidesLength.rdReserved7C : HeaderDecidesLength.Statement .rdReserved7C := fun _ => HeaderDecidesLength.ofRegRead (by decide)

theorem HeaderDecidesLength.rdReservedHigh (off : Byte) : HeaderDecidesLength.Statement (.rdReservedHigh off) :=
  fun h => HeaderDecidesLength.ofRegRead (HeaderDecidesLength.aligned_of_reservedHigh h)

theorem HeaderDecidesLength.write (payload : List Byte) : HeaderDecidesLength.Statement (.write payload) := by
  intro _
  exact ⟨_, _, List.append_assoc _ _ _, by rw [classify_write]; exact ⟨payload, rfl, rfl⟩⟩

theorem HeaderDecidesLength.illegal (header : Word) : HeaderDecidesLength.Statement (.illegal header) := by
  intro h
  exact ⟨header, [], (List.append_nil _).symm, by rw [(classify_illegal_iff header).mpr h]⟩

end Sys2Proof.Laws
end

