-- ==== Sys2Proof/Laws/Units.lean ====
section
/-! SUPPORT. What each unit of the block can do, said once: the folds, the peak, the schedule, the sample step, the byte step,
the configuration lock and the validator. Later proofs cite these and do not unfold the units. -/

namespace Sys2Proof.Machine

variable (p : Config.Params) (s : State)

/-! ## RollingWindow -/

/-- The CIRCULAR fold changes the buffer, the cursor, the fill count and the sum, and nothing else (R154). -/
theorem State.windowFoldCircular_eq (q : Square) : s.windowFoldCircular q = { s with
    buf := s.buf.write s.pos.toNat q
    fill := if s.fill < s.N then s.fill + 1 else s.fill
    pos := BitVec.ofNat 64 ((s.pos.toNat + 1) % s.N.toNat)
    sum := s.sum + q.setWidth 176 - (if s.fill < s.N then (0 : Square) else s.readSlot s.pos.toNat).setWidth 176 } := rfl

/-- The RESET fold changes the sum and the fill count, and nothing else (R158). -/
theorem State.windowFoldReset_eq (q : Square) :
    s.windowFoldReset q = { s with sum := s.sum + q.setWidth 176, fill := s.fill + 1 } := rfl

/-- In CIRCULAR mode the fold is the CIRCULAR one (R153). -/
theorem State.windowFold_of_circular {s : State} (h : s.mode = .circular) (q : Square) :
    s.windowFold q = s.windowFoldCircular q := by
  simp [State.windowFold, h]

/-- In RESET mode the fold is the RESET one (R153). -/
theorem State.windowFold_of_reset {s : State} (h : s.mode = .reset) (q : Square) :
    s.windowFold q = s.windowFoldReset q := by
  simp [State.windowFold, h]

/-- The fold changes only the window's state. -/
theorem State.windowFold_frame (q : Square) : ∃ buf fill pos sum,
    s.windowFold q = { s with buf := buf, fill := fill, pos := pos, sum := sum } := by
  by_cases h : s.mode = .circular
  · rw [State.windowFold_of_circular h, State.windowFoldCircular_eq]
    exact ⟨_, _, _, _, rfl⟩
  · have h : s.mode = .reset := by cases hm : s.mode <;> simp_all
    rw [State.windowFold_of_reset h, State.windowFoldReset_eq]
    exact ⟨_, _, _, _, rfl⟩

/-! ## ReportScheduler -/

/-- A report sends its events and clears its interval, and nothing else (R170 to R172). -/
theorem State.report_eq : s.report p = { s with
    out := s.out ++ s.reportEvents p
    peak := 0
    sum := if s.mode = .reset then 0 else s.sum
    fill := if s.mode = .reset then 0 else s.fill } := by
  have e : ∀ t : State, t.clearInterval = { t with
      peak := 0, sum := if t.mode = .reset then 0 else t.sum, fill := if t.mode = .reset then 0 else t.fill } := by
    intro t
    cases h : t.mode <;> simp [State.clearInterval, h]
  rw [State.report, e]
  rfl

/-- At zero the schedule reports and reloads the countdown (R168). -/
theorem State.schedule_zero {s : State} (h : s.countdown = 0) :
    s.schedule p = { s.report p with countdown := s.P } := if_pos h

/-- Above zero the schedule counts down (R168). -/
theorem State.schedule_pos {s : State} (h : s.countdown ≠ 0) :
    s.schedule p = { s with countdown := s.countdown - 1 } := if_neg h

/-- The schedule changes only the countdown, the history, the peak, the sum and the fill count. -/
theorem State.schedule_frame : ∃ countdown out peak sum fill, s.schedule p =
    { s with countdown := countdown, out := out, peak := peak, sum := sum, fill := fill } := by
  by_cases h : s.countdown = 0
  · rw [State.schedule_zero p h, State.report_eq]
    exact ⟨_, _, _, _, _, rfl⟩
  · rw [State.schedule_pos p h]
    exact ⟨_, _, _, _, _, rfl⟩

/-- The events of a report are on the report port, not responses. -/
theorem State.reportEvents_isResponse : ∀ e ∈ s.reportEvents p, e.isResponse = false := by
  intro e he
  unfold State.reportEvents at he
  rcases List.mem_append.mp he with he | he <;> split at he <;> simp_all [Output.isResponse]

/-- The schedule adds to the history the events of a report, or nothing. -/
theorem State.schedule_out : (s.schedule p).out = s.out ++ if s.countdown = 0 then s.reportEvents p else [] := by
  by_cases h : s.countdown = 0
  · rw [State.schedule_zero p h, State.report_eq, if_pos h]
  · rw [State.schedule_pos p h, if_neg h, List.append_nil]

/-! ## SampleDecoder -/

/-- Two states that differ only in the stream state that samples change, and in the history. -/
structure SampleFrame (s t : State) : Prop where
  eq : ∃ buf fill pos sum peak countdown out, t = { s with
    buf := buf, fill := fill, pos := pos, sum := sum, peak := peak, countdown := countdown, out := out }

theorem SampleFrame.refl : SampleFrame s s := ⟨_, _, _, _, _, _, _, rfl⟩

theorem SampleFrame.trans {s t u : State} (h : SampleFrame s t) (k : SampleFrame t u) : SampleFrame s u := by
  obtain ⟨_, _, _, _, _, _, _, rfl⟩ := h
  obtain ⟨_, _, _, _, _, _, _, rfl⟩ := k
  exact ⟨_, _, _, _, _, _, _, rfl⟩

/-- A sample step changes only the window, the peak, the countdown and the history (R152). -/
theorem State.sampleStep_frame (x : Int) : SampleFrame s (s.sampleStep p x) := by
  obtain ⟨buf, fill, pos, sum, h⟩ := s.windowFold_frame (squareOf x)
  obtain ⟨_, _, _, _, _, k⟩ := (({ s with buf, fill, pos, sum } : State).peakFold x).schedule_frame p
  rw [State.sampleStep, h, k]
  exact ⟨_, _, _, _, _, _, _, rfl⟩

/-- Any number of sample steps changes only these. -/
theorem State.foldl_sampleStep_frame (xs : List Int) : SampleFrame s (xs.foldl (State.sampleStep p) s) := by
  induction xs generalizing s with
  | nil => exact .refl s
  | cons x xs ih => exact (s.sampleStep_frame p x).trans (ih _)

/-- A payload changes only the stream state and the history (R140). -/
theorem State.decodePayload_frame (payload : List Byte) :
    ∃ pend, SampleFrame { s with pend := pend } (s.decodePayload p payload) := by
  unfold State.decodePayload
  induction payload generalizing s with
  | nil => exact ⟨s.pend, .refl s⟩
  | cons b payload ih =>
    obtain ⟨pend, h⟩ := ih (s.byteStep p b)
    refine ⟨pend, .trans ?_ h⟩
    unfold State.byteStep
    simp only
    split
    · obtain ⟨_, _, _, _, _, _, _, k⟩ := ({ s with pend := [] } : State).foldl_sampleStep_frame p
        (({ s with pend := [] } : State).frameSamples (s.pend ++ [b]))
      rw [State.decodeFrame, k]
      exact ⟨_, _, _, _, _, _, _, rfl⟩
    · exact .refl _

/-- A byte that completes no frame waits (R140). -/
theorem State.byteStep_waits {s : State} {b : Byte} (h : (s.pend ++ [b]).length ≠ s.frameBytes.toNat) :
    s.byteStep p b = { s with pend := s.pend ++ [b] } := if_neg h

/-- A byte that completes a frame has it decoded (R140). -/
theorem State.byteStep_completes {s : State} {b : Byte} (h : (s.pend ++ [b]).length = s.frameBytes.toNat) :
    s.byteStep p b = { s with pend := [] }.decodeFrame p (s.pend ++ [b]) := if_pos h

/-- Every word of a frame has the bytes of a word. -/
@[simp] theorem frameWord_length (wordBytes : Nat) (frame : List Byte) (c : Nat) :
    (frameWord wordBytes frame c).length = wordBytes := by
  simp [frameWord]

/-- A word that lies inside the frame is a slice of it, with no free byte. -/
theorem frameWord_eq_slice {wordBytes : Nat} {frame : List Byte} {c : Nat}
    (h : c * wordBytes + wordBytes ≤ frame.length) :
    frameWord wordBytes frame c = (frame.drop (c * wordBytes)).take wordBytes := by
  apply List.ext_getElem
  · rw [frameWord_length, List.length_take, List.length_drop]; omega
  · intro k h1 h2
    rw [frameWord_length] at h1
    simp [frameWord, List.getElem?_eq_getElem (show c * wordBytes + k < frame.length by omega)]

/-- The samples of a frame are one per channel. -/
@[simp] theorem State.frameSamples_length (frame : List Byte) : (s.frameSamples frame).length = s.channels.toNat := by
  simp [State.frameSamples]

/-! ## The frame length -/

/-- The frame length is the exact product where that fits 32 bits (R135). -/
theorem frameBytesOf_fits {channels wordBytes : Nat} (h : channels * wordBytes < 2 ^ 32) :
    (frameBytesOf channels wordBytes).toNat = channels * wordBytes := by
  rw [frameBytesOf, if_pos h, BitVec.toNat_ofNat, Nat.mod_eq_of_lt h]

/-- A frame of at least one channel and one byte is never empty. -/
theorem frameBytesOf_pos {channels wordBytes : Nat} (hc : 0 < channels) (hw : 0 < wordBytes) :
    0 < (frameBytesOf channels wordBytes).toNat := by
  by_cases h : channels * wordBytes < 2 ^ 32
  · rw [frameBytesOf_fits h]
    exact Nat.mul_pos hc hw
  · have := Nat.mod_lt (Config.frameBytesFree channels wordBytes) (show 0 < 2 ^ 32 - 1 by norm_num)
    rw [frameBytesOf, if_neg h, BitVec.toNat_ofNat]
    omega

/-! ## The configuration lock -/

/-- In RUNNING a configuration write is refused and its store does not happen (R87). -/
theorem State.writeConfig_running {s : State} (h : s.phase = .running) (store : State → State) :
    s.writeConfig store = { s with lockFault := true, out := s.out ++ [.response .configLocked 0] } := by
  simp [State.writeConfig, h, State.raiseLockFault, State.raiseError, State.respond]

/-- In UNCONFIGURED a configuration write stores and answers OK (R88 to R94). -/
theorem State.writeConfig_unconfigured {s : State} (h : s.phase = .unconfigured) (store : State → State) :
    s.writeConfig store = (store s).respond .ok 0 := by
  rw [State.writeConfig, h]

/-! ## The sample step, field by field -/

/-- The countdown counts down to 0 and is reloaded there (R168). -/
theorem State.sampleStep_countdown (x : Int) :
    (s.sampleStep p x).countdown = if s.countdown = 0 then s.P else s.countdown - 1 := by
  obtain ⟨_, _, _, _, h⟩ := s.windowFold_frame (squareOf x)
  by_cases hc : s.countdown = 0
  · rw [State.sampleStep, State.schedule_zero p (by rw [h]; exact hc), h, if_pos hc]
    rfl
  · rw [State.sampleStep, State.schedule_pos p (by rw [h]; exact hc), h, if_neg hc]
    rfl

/-- The peak takes the larger magnitude, and a report clears it (R164, R172). -/
theorem State.sampleStep_peak (x : Int) : (s.sampleStep p x).peak =
    if s.countdown = 0 then 0 else BitVec.ofNat 64 (max s.peak.toNat x.natAbs) := by
  obtain ⟨_, _, _, _, h⟩ := s.windowFold_frame (squareOf x)
  by_cases hc : s.countdown = 0
  · rw [State.sampleStep, State.schedule_zero p (by rw [h]; exact hc), State.report_eq, if_pos hc]
  · rw [State.sampleStep, State.schedule_pos p (by rw [h]; exact hc), h, if_neg hc]
    rfl

/-- The buffer and the cursor are those of the fold; the sum and the fill count too, but where a report in RESET mode clears
them (R171). -/
theorem State.sampleStep_window (x : Int) :
    (s.sampleStep p x).buf = (s.windowFold (squareOf x)).buf ∧
    (s.sampleStep p x).pos = (s.windowFold (squareOf x)).pos ∧
    (s.sampleStep p x).sum = (if s.countdown = 0 ∧ s.mode = .reset then 0 else (s.windowFold (squareOf x)).sum) ∧
    (s.sampleStep p x).fill = (if s.countdown = 0 ∧ s.mode = .reset then 0 else (s.windowFold (squareOf x)).fill) := by
  obtain ⟨_, _, _, _, h⟩ := s.windowFold_frame (squareOf x)
  by_cases hc : s.countdown = 0
  · rw [State.sampleStep, State.schedule_zero p (by rw [h]; exact hc), State.report_eq, h]
    simp [State.peakFold, hc]
  · rw [if_neg (fun e => hc e.1), if_neg (fun e => hc e.1), State.sampleStep,
      State.schedule_pos p (by rw [h]; exact hc), h]
    exact ⟨rfl, rfl, rfl, rfl⟩

/-- A sample step adds to the history the events of a report, or nothing (R170). -/
theorem State.sampleStep_out (x : Int) : (s.sampleStep p x).out = s.out ++
    if s.countdown = 0 then ((s.windowFold (squareOf x)).peakFold x).reportEvents p else [] := by
  obtain ⟨_, _, _, _, h⟩ := s.windowFold_frame (squareOf x)
  rw [State.sampleStep, State.schedule_out, h]
  rfl

/-! ## ConfigValidator -/

/-- Validation succeeds exactly when neither group of checks holds (R131). -/
theorem State.validate_ok_iff : s.validate p = .ok ↔ s.configBad = false ∧ s.configUnsupported p = false := by
  unfold State.validate
  cases s.configBad <;> cases s.configUnsupported p <;> simp

/-- A configuration that validates is one the hardware can run (R129, R130). -/
theorem State.valid_facts {p : Config.Params} {s : State} (h : s.validate p = .ok) :
    0 < s.channels.toNat ∧ 0 < s.rate.toNat ∧ s.wsize % 8 = 0 ∧ 8 ≤ s.wsize ∧ s.wsize ≤ 56 ∧
    1 ≤ s.reportSamples ∧ s.reportSamples ≤ 2 ^ 64 - 1 ∧ s.channels.toNat ≤ p.maxChannels ∧
    (s.selectedMode = .circular → 1 ≤ s.windowSlots ∧ s.windowSlots ≤ p.maxWindowSlots) := by
  obtain ⟨hb, hu⟩ := (State.validate_ok_iff p s).mp h
  simp only [State.configBad, Bool.or_eq_false_iff, beq_eq_false_iff_ne, bne_eq_false_iff_eq, decide_eq_false_iff_not] at hb
  simp only [State.configUnsupported, Bool.or_eq_false_iff, Bool.and_eq_false_iff, beq_eq_false_iff_ne,
    decide_eq_false_iff_not] at hu
  obtain ⟨⟨⟨hc, ⟨hw0, hw8⟩, hw64⟩, hr⟩, hq⟩ := hb
  obtain ⟨⟨⟨hm, hq'⟩, hn0⟩, hn⟩ := hu
  have hc' : s.channels.toNat ≠ 0 := fun hh => hc (BitVec.eq_of_toNat_eq hh)
  have hr' : s.rate.toNat ≠ 0 := fun hh => hr (BitVec.eq_of_toNat_eq hh)
  refine ⟨by omega, by omega, hw8, by omega, by omega, by omega, by omega, by omega, fun hmode => ?_⟩
  have h0 := hn0.resolve_left (fun hne => hne hmode)
  have h1 := hn.resolve_left (fun hne => hne hmode)
  omega

end Sys2Proof.Machine
end

