-- ==== Sys2Proof/Tests/Slice0.lean ====
section
/-! SUPPORT. Tests. Expected values are those of 95_test_vectors.md, or worked out by hand from the rule named. Then, for every
obligation with hypotheses, a concrete state and operands that meet them. -/

namespace Sys2Proof.Tests

open Sys2Proof.Machine

/-! ## Helpers -/

/-- The parameters of the vectors of 95_test_vectors.md section 2.4; every dB value that R177 leaves open is −1.0. -/
def testParams : Config.Params where
  maxChannels := 8
  maxWindowSlots := 100000
  dbfnRms := dbfnRmsOf fun _ _ _ => 0xBFF0000000000000#64
  dbfnPeak := dbfnPeakOf fun _ _ => 0xBFF0000000000000#64

/-- The state after reset and the seven configuration writes. -/
def configured (rate channels format : Word) (window observe : Wide) : State :=
  { State.reset with
    rate := rate, channels := channels, format := format
    windowLo := loWord window, windowHi := hiWord window
    observeLo := loWord observe, observeHi := hiWord observe }

/-- 16-bit samples as little-endian bytes. -/
def samples16 (xs : List Int) : List Byte := xs.flatMap fun x => bytesLE 2 (BitVec.ofInt 16 x).toNat

/-- The integers of an event: the tag, the divisor (0 for a peak), and the sum or the peak; and whether its dB value is the −∞
(2), +0.0 (1) or another one (0). -/
def eventNumbers : Output → Nat × Nat × Nat × Nat
  | .rmsEvent db div sum => (1, div.toNat, sum.toNat, if db = doubleNegInf then 2 else if db = 0 then 1 else 0)
  | .peakEvent db peak => (2, 0, peak.toNat, if db = doubleNegInf then 2 else if db = 0 then 1 else 0)
  | .response _ _ => (0, 0, 0, 0)

/-- What one WRITE reports. -/
def reported (s : State) (payload : List Byte) : List (Nat × Nat × Nat × Nat) :=
  (s.writeTransaction testParams payload).events.map eventNumbers

/-- COUNT, FILL, SUM, PEAK and POS after one WRITE. -/
def streamAfter (s : State) (payload : List Byte) : Nat × Nat × Nat × Nat × Nat :=
  let t := s.writeTransaction testParams payload
  (t.countdown.toNat, t.fill.toNat, t.sum.toNat, t.peak.toNat, t.pos.toNat)

/-- The next state of an outcome. -/
def nextState : Host.Outcome State Fault Refusal → Option State
  | .next s => some s
  | .fault _ => none
  | .refused _ => none

/-- The last response of an outcome's next state, in bytes (R78). -/
def lastBytes (o : Host.Outcome State Fault Refusal) : Option (List Byte) :=
  (nextState o).bind fun s => s.out.getLast?.map Output.bytes

/-- The response of one register read, in bytes. -/
def readBytes (i : Instr) (s : State) : Option (List Byte) := lastBytes (exec i s)

/-! ## WellFormed -/

theorem test_wf_refuses_reserved_write_offsets : (Instr.wrReservedHigh 0x7C 0).wf = false ∧
    (Instr.wrReservedHigh 0x81 0).wf = false ∧ (Instr.wrReservedHigh 0xFE 0).wf = false := by decide

theorem test_wf_refuses_reserved_read_offsets : (Instr.rdReservedHigh 0x00).wf = false ∧
    (Instr.rdReservedHigh 0x82).wf = false := by decide

theorem test_wf_refuses_legal_headers : (Instr.illegal 0x10000000).wf = false ∧ (Instr.illegal 0x200000FC).wf = false ∧
    (Instr.illegal 0x30000000).wf = false := by decide

/-- A payload of 2^32 bytes is one too long for LEN. -/
theorem test_wf_refuses_long_payload (payload : List Byte) (h : payload.length = 2 ^ 32) :
    (Instr.write payload).wf = false :=
  decide_eq_false (by omega)

theorem test_wf_accepts : (Instr.wrReservedHigh 0x80 7).wf = true ∧ (Instr.rdReservedHigh 0xFC).wf = true ∧
    (Instr.illegal 0x40000000).wf = true ∧ (Instr.write [1, 2, 3]).wf = true := by decide

/-! ## Decoding: words written out from 30_encoding.md R66 to R72 -/

/-- REG_WRITE of the configuration registers, offsets 0x00 to 0x18 (40_host_registers.md R86, R126): header 0x1000_00oo, then DATA. -/
theorem test_decode_write_configuration :
    decodeTableWord 64 0x0000AC4410000000 = some (.wrRate 0x0000AC44) ∧
    decodeTableWord 64 0x0000000210000004 = some (.wrChannels 0x00000002) ∧
    decodeTableWord 64 0x0003031010000008 = some (.wrFormat 0x00030310) ∧
    decodeTableWord 64 0x3B9ACA001000000C = some (.wrWindowLo 0x3B9ACA00) ∧
    decodeTableWord 64 0x8000000110000010 = some (.wrWindowHi 0x80000001) ∧
    decodeTableWord 64 0x1234567810000014 = some (.wrObserveLo 0x12345678) ∧
    decodeTableWord 64 0xFFFFFFFF10000018 = some (.wrObserveHi 0xFFFFFFFF) := by decide

/-- REG_READ of the configuration registers, offsets 0x00 to 0x18 (R86, R126): header 0x2000_00oo. -/
theorem test_decode_read_configuration :
    decodeTableWord 32 0x20000000 = some .rdRate ∧
    decodeTableWord 32 0x20000004 = some .rdChannels ∧
    decodeTableWord 32 0x20000008 = some .rdFormat ∧
    decodeTableWord 32 0x2000000C = some .rdWindowLo ∧
    decodeTableWord 32 0x20000010 = some .rdWindowHi ∧
    decodeTableWord 32 0x20000014 = some .rdObserveLo ∧
    decodeTableWord 32 0x20000018 = some .rdObserveHi := by decide

/-- REG_WRITE of the STATUS, RESULT and CTRL, offsets 0x1C to 0x24 (40_host_registers.md R86, R126): header 0x1000_00oo, then DATA. -/
theorem test_decode_write_control :
    decodeTableWord 64 0x0000AC441000001C = some (.wrStatus 0x0000AC44) ∧
    decodeTableWord 64 0x0000000210000020 = some (.wrResult 0x00000002) ∧
    decodeTableWord 64 0x0003031010000024 = some (.wrCtrl 0x00030310) := by decide

/-- REG_READ of the STATUS, RESULT and CTRL, offsets 0x1C to 0x24 (R86, R126): header 0x2000_00oo. -/
theorem test_decode_read_control :
    decodeTableWord 32 0x2000001C = some .rdStatus ∧
    decodeTableWord 32 0x20000020 = some .rdResult ∧
    decodeTableWord 32 0x20000024 = some .rdCtrl := by decide

/-- REG_WRITE of the observation registers, offsets 0x28 to 0x58 (40_host_registers.md R86, R126): header 0x1000_00oo, then DATA. -/
theorem test_decode_write_observation :
    decodeTableWord 64 0x3B9ACA0010000028 = some (.wrPeriodLo 0x3B9ACA00) ∧
    decodeTableWord 64 0x800000011000002C = some (.wrPeriodHi 0x80000001) ∧
    decodeTableWord 64 0x1234567810000030 = some (.wrWsampLo 0x12345678) ∧
    decodeTableWord 64 0xFFFFFFFF10000034 = some (.wrWsampHi 0xFFFFFFFF) ∧
    decodeTableWord 64 0x0000AC4410000038 = some (.wrCountLo 0x0000AC44) ∧
    decodeTableWord 64 0x000000021000003C = some (.wrCountHi 0x00000002) ∧
    decodeTableWord 64 0x0003031010000040 = some (.wrFillLo 0x00030310) ∧
    decodeTableWord 64 0x3B9ACA0010000044 = some (.wrFillHi 0x3B9ACA00) ∧
    decodeTableWord 64 0x8000000110000048 = some (.wrPeakLo 0x80000001) ∧
    decodeTableWord 64 0x123456781000004C = some (.wrPeakHi 0x12345678) ∧
    decodeTableWord 64 0xFFFFFFFF10000050 = some (.wrPend 0xFFFFFFFF) ∧
    decodeTableWord 64 0x0000AC4410000054 = some (.wrPosLo 0x0000AC44) ∧
    decodeTableWord 64 0x0000000210000058 = some (.wrPosHi 0x00000002) := by decide

/-- REG_READ of the observation registers, offsets 0x28 to 0x58 (R86, R126): header 0x2000_00oo. -/
theorem test_decode_read_observation :
    decodeTableWord 32 0x20000028 = some .rdPeriodLo ∧
    decodeTableWord 32 0x2000002C = some .rdPeriodHi ∧
    decodeTableWord 32 0x20000030 = some .rdWsampLo ∧
    decodeTableWord 32 0x20000034 = some .rdWsampHi ∧
    decodeTableWord 32 0x20000038 = some .rdCountLo ∧
    decodeTableWord 32 0x2000003C = some .rdCountHi ∧
    decodeTableWord 32 0x20000040 = some .rdFillLo ∧
    decodeTableWord 32 0x20000044 = some .rdFillHi ∧
    decodeTableWord 32 0x20000048 = some .rdPeakLo ∧
    decodeTableWord 32 0x2000004C = some .rdPeakHi ∧
    decodeTableWord 32 0x20000050 = some .rdPend ∧
    decodeTableWord 32 0x20000054 = some .rdPosLo ∧
    decodeTableWord 32 0x20000058 = some .rdPosHi := by decide

/-- REG_WRITE of the SUM0 to SUM5 and the reserved offsets (40_host_registers.md R86, R126): header 0x1000_00oo, then DATA. -/
theorem test_decode_write_sum_and_reserved :
    decodeTableWord 64 0x0003031010000060 = some (.wrSum0 0x00030310) ∧
    decodeTableWord 64 0x3B9ACA0010000064 = some (.wrSum1 0x3B9ACA00) ∧
    decodeTableWord 64 0x8000000110000068 = some (.wrSum2 0x80000001) ∧
    decodeTableWord 64 0x123456781000006C = some (.wrSum3 0x12345678) ∧
    decodeTableWord 64 0xFFFFFFFF10000070 = some (.wrSum4 0xFFFFFFFF) ∧
    decodeTableWord 64 0x0000AC4410000074 = some (.wrSum5 0x0000AC44) ∧
    decodeTableWord 64 0x000000021000005C = some (.wrReserved5C 0x00000002) ∧
    decodeTableWord 64 0x0003031010000078 = some (.wrReserved78 0x00030310) ∧
    decodeTableWord 64 0x3B9ACA001000007C = some (.wrReserved7C 0x3B9ACA00) ∧
    decodeTableWord 64 0x0000000510000080 = some (.wrReservedHigh 0x80 5) ∧
    decodeTableWord 64 0x00000005100000FC = some (.wrReservedHigh 0xFC 5) := by decide

/-- REG_READ of the SUM0 to SUM5 and the reserved offsets (R86, R126): header 0x2000_00oo. -/
theorem test_decode_read_sum_and_reserved :
    decodeTableWord 32 0x20000060 = some .rdSum0 ∧
    decodeTableWord 32 0x20000064 = some .rdSum1 ∧
    decodeTableWord 32 0x20000068 = some .rdSum2 ∧
    decodeTableWord 32 0x2000006C = some .rdSum3 ∧
    decodeTableWord 32 0x20000070 = some .rdSum4 ∧
    decodeTableWord 32 0x20000074 = some .rdSum5 ∧
    decodeTableWord 32 0x2000005C = some .rdReserved5C ∧
    decodeTableWord 32 0x20000078 = some .rdReserved78 ∧
    decodeTableWord 32 0x2000007C = some .rdReserved7C ∧
    decodeTableWord 32 0x20000080 = some (.rdReservedHigh 0x80) ∧
    decodeTableWord 32 0x200000FC = some (.rdReservedHigh 0xFC) := by decide

/-- WRITE (R69): header 0x3000_0000, LEN, payload; the table gives no bits to the payload, which is then zeros. -/
theorem test_decode_write : decodeTableWord 64 0x0000000030000000 = some (.write []) ∧
    decodeTableWord 32 0x30000000 = some (.write []) ∧ decodeTableWord 32 0x10000000 = some (.wrRate 0) ∧
    decodeTableWord 64 0x0000000330000000 = some (.write [0, 0, 0]) ∧
    decode [0x00, 0x00, 0x00, 0x30, 0x03, 0x00, 0x00, 0x00, 0x01, 0x02, 0x03, 0x99] =
      .ok (.write [0x01, 0x02, 0x03], [0x99]) := by decide

/-- The illegal headers of 95_test_vectors.md section 2.2. -/
theorem test_decode_illegal : decodeTableWord 32 0x00000000 = some (.illegal 0x00000000) ∧
    decodeTableWord 32 0x40000000 = some (.illegal 0x40000000) ∧
    decodeTableWord 32 0xF0000000 = some (.illegal 0xF0000000) ∧
    decodeTableWord 32 0x10000100 = some (.illegal 0x10000100) ∧
    decodeTableWord 32 0x20000002 = some (.illegal 0x20000002) ∧
    decodeTableWord 32 0x30000004 = some (.illegal 0x30000004) := by decide

/-- Bytes in channel order: the first is the header's lowest (R66). -/
theorem test_decode_bytes : decode [0x00, 0x00, 0x00, 0x10, 0x44, 0xAC, 0x00, 0x00] = .ok (.wrRate 44100, []) ∧
    decode [0x08, 0x00, 0x00, 0x10, 0x10, 0x03, 0x03, 0x00] = .ok (.wrFormat 0x30310, []) ∧
    decode [0x1C, 0x00, 0x00, 0x20, 0x38] = .ok (.rdStatus, [0x38]) ∧
    decode [0x5C, 0x00, 0x00, 0x10, 0x05, 0x00, 0x00, 0x00] = .ok (.wrReserved5C 5, []) := by decide

theorem test_encode_bytes : encode (.wrObserveLo 1000000000) = [0x14, 0x00, 0x00, 0x10, 0x00, 0xCA, 0x9A, 0x3B] ∧
    encode .rdSum5 = [0x74, 0x00, 0x00, 0x20] ∧
    encode (.write [0x85, 0x82]) = [0x00, 0x00, 0x00, 0x30, 0x02, 0x00, 0x00, 0x00, 0x85, 0x82] := by decide

/-- `cfg` of section 1.1 (R81). -/
theorem test_cfg : (cfg 44100 2 16 true true 1000000000 1000000000 true true).flatMap encode =
    [0x00, 0x00, 0x00, 0x10, 0x44, 0xAC, 0x00, 0x00, 0x04, 0x00, 0x00, 0x10, 0x02, 0x00, 0x00, 0x00,
     0x08, 0x00, 0x00, 0x10, 0x10, 0x03, 0x03, 0x00, 0x0C, 0x00, 0x00, 0x10, 0x00, 0xCA, 0x9A, 0x3B,
     0x10, 0x00, 0x00, 0x10, 0x00, 0x00, 0x00, 0x00, 0x14, 0x00, 0x00, 0x10, 0x00, 0xCA, 0x9A, 0x3B,
     0x18, 0x00, 0x00, 0x10, 0x00, 0x00, 0x00, 0x00] := by decide

/-! ## The bytes the block sends (section 2.1) -/

theorem test_response_bytes : (Output.response .ok 44100).bytes = [0x00, 0x44, 0xAC, 0x00, 0x00] ∧
    (Output.response .badParameters 0).bytes = [0x01, 0x00, 0x00, 0x00, 0x00] ∧
    (Output.response .unsupportedConfig 0).bytes = [0x02, 0x00, 0x00, 0x00, 0x00] ∧
    (Output.response .configLocked 0).bytes = [0x03, 0x00, 0x00, 0x00, 0x00] ∧
    (Output.response .illegal 0).bytes = [0x04, 0x00, 0x00, 0x00, 0x00] := by decide

/-- The events of program 1. -/
theorem test_event_bytes : (Output.rmsEvent 0xBFF8155D9AB1D213 4 2147418138).bytes =
      [0x01, 0x13, 0xD2, 0xB1, 0x9A, 0x5D, 0x15, 0xF8, 0xBF, 0x04, 0, 0, 0, 0, 0, 0, 0,
       0x1A, 0x00, 0xFF, 0x7F, 0, 0, 0, 0, 0, 0, 0, 0, 0, 0, 0, 0, 0, 0, 0, 0, 0, 0] ∧
    (Output.peakEvent 0 32768).bytes = [0x02, 0, 0, 0, 0, 0, 0, 0, 0, 0x00, 0x80, 0, 0, 0, 0, 0, 0] := by decide

/-! ## The step -/

theorem test_step_write_register :
    (nextState (step (State.reset.withFetchWord 64 0x0000AC4410000000))).map (fun s => (s.rate, s.input)) =
      some (44100, []) := by decide

theorem test_step_illegal : lastBytes (step (State.reset.withFetchWord 32 0x30000004)) = some [0x04, 0, 0, 0, 0] := by decide

/-- Z2: the first WRITE after reset fails and leaves nothing of its payload to the parser. -/
theorem test_step_first_write : (nextState (step (State.reset.sendFirst (encode (.write [1, 2]))))).map
    (fun s => (s.status, s.pend, s.input)) = some (0x10, [], []) := by decide

/-- Z4: a hardware reset inside a payload. -/
theorem test_step_hardware_reset :
    (nextState (step { State.reset with rate := 7, input :=
      ((encode (.write [1, 2])).take 9).map .byte ++ [.reset, .byte 0x1C] })).map
      (fun s => (s.rate, s.input, s.out)) = some (0, [.byte 0x1C], []) := by decide

theorem test_step_waits : step State.reset = .fault .idle ∧
    step { State.reset with input := [.byte 0x1C] } = .fault .awaitingBytes := ⟨rfl, rfl⟩

/-! ## Registers (section 2.3) -/

theorem test_format_mask : (nextState (exec (.wrFormat 0xFFFFFFFF) State.reset)).map State.format = some 0x303FF := by decide

theorem test_control_reset : (nextState (exec (.wrCtrl 1) { State.reset with rate := 44100 })).map State.rate = some 0 ∧
    (nextState (exec (.wrCtrl 0xFFFFFFFE) { State.reset with rate := 44100 })).map State.rate = some 44100 := by decide

theorem test_configuration_reads : readBytes .rdRate { State.reset with rate := 44100 } = some [0, 0x44, 0xAC, 0, 0] ∧
    readBytes .rdChannels { State.reset with channels := 2 } = some [0, 2, 0, 0, 0] ∧
    readBytes .rdFormat { State.reset with format := 0x303FF } = some [0, 0xFF, 0x03, 0x03, 0x00] ∧
    readBytes .rdWindowLo { State.reset with windowLo := 1, windowHi := 2 } = some [0, 1, 0, 0, 0] ∧
    readBytes .rdWindowHi { State.reset with windowLo := 1, windowHi := 2 } = some [0, 2, 0, 0, 0] ∧
    readBytes .rdObserveLo { State.reset with observeLo := 3, observeHi := 4 } = some [0, 3, 0, 0, 0] ∧
    readBytes .rdObserveHi { State.reset with observeLo := 3, observeHi := 4 } = some [0, 4, 0, 0, 0] := by decide

/-- The RUNNING state of section 2.3: mono, 32-bit, big-endian, signed, N = 4, P = 7, after 4 samples and 2 bytes. -/
def running23 : State := (configured 1000 1 0x30220 4000000 8000000).writeTransaction testParams
  [0x80, 0, 0, 0, 0x7F, 0xFF, 0xFF, 0xFF, 0xFF, 0xFF, 0xFF, 0xFF, 0, 0, 0, 5, 0, 0]

theorem test_running_status_reads : readBytes .rdStatus running23 = some [0, 1, 0, 0, 0] ∧
    readBytes .rdResult running23 = some [0, 18, 0, 0, 0] ∧ readBytes .rdCtrl running23 = some [0, 0, 0, 0, 0] := by decide

theorem test_running_reads : readBytes .rdPeriodLo running23 = some [0, 7, 0, 0, 0] ∧
    readBytes .rdWsampLo running23 = some [0, 4, 0, 0, 0] ∧ readBytes .rdCountLo running23 = some [0, 3, 0, 0, 0] ∧
    readBytes .rdFillLo running23 = some [0, 4, 0, 0, 0] ∧ readBytes .rdPeakLo running23 = some [0, 0, 0, 0, 0x80] ∧
    readBytes .rdPend running23 = some [0, 2, 0, 0, 0] ∧ readBytes .rdPosLo running23 = some [0, 0, 0, 0, 0] ∧
    readBytes .rdSum0 running23 = some [0, 0x1B, 0, 0, 0] ∧ readBytes .rdSum1 running23 = some [0, 0xFF, 0xFF, 0xFF, 0x7F] ∧
    readBytes .rdSum2 running23 = some [0, 0, 0, 0, 0] ∧ readBytes .rdReserved5C running23 = some [0, 0, 0, 0, 0] := by decide

/-- A state whose 64-bit and 176-bit quantities have every half and every word different (R50). -/
def wideState : State := { State.reset with
  P := 0x0000000200000001, N := 0x0000000400000003, countdown := 0x0000000600000005, fill := 0x0000000800000007
  peak := 0x0000000A00000009, pos := 0x0000000C0000000B
  sum := 0x00060000000500000004000000030000000200000001 }

theorem test_high_reads : readBytes .rdPeriodHi wideState = some [0, 2, 0, 0, 0] ∧
    readBytes .rdWsampHi wideState = some [0, 4, 0, 0, 0] ∧ readBytes .rdCountHi wideState = some [0, 6, 0, 0, 0] ∧
    readBytes .rdFillHi wideState = some [0, 8, 0, 0, 0] ∧ readBytes .rdPeakHi wideState = some [0, 0xA, 0, 0, 0] ∧
    readBytes .rdPosHi wideState = some [0, 0xC, 0, 0, 0] ∧ readBytes .rdPosLo wideState = some [0, 0xB, 0, 0, 0] := by decide

theorem test_sum_reads : readBytes .rdSum0 wideState = some [0, 1, 0, 0, 0] ∧
    readBytes .rdSum1 wideState = some [0, 2, 0, 0, 0] ∧ readBytes .rdSum2 wideState = some [0, 3, 0, 0, 0] ∧
    readBytes .rdSum3 wideState = some [0, 4, 0, 0, 0] ∧ readBytes .rdSum4 wideState = some [0, 5, 0, 0, 0] ∧
    readBytes .rdSum5 wideState = some [0, 6, 0, 0, 0] := by decide

/-- Writes to CHANNELS and WINDOW_LO in RUNNING: CONFIG_LOCKED, the register kept, STATUS 0x101. -/
theorem test_lock : lastBytes (exec (.wrChannels 2) running23) = some [3, 0, 0, 0, 0] ∧
    (nextState (exec (.wrChannels 2) running23)).map (fun s => (s.channels, s.status)) = some (1, 0x101) ∧
    (nextState (exec (.wrWindowLo 0) running23)).map (fun s => (s.windowLo, s.status)) = some (4000000, 0x101) := by decide

theorem test_read_only_write : exec (.wrPeakLo 0) running23 = .next (running23.respond .ok 0) ∧
    exec (.wrSum5 9) running23 = .next (running23.respond .ok 0) := ⟨rfl, rfl⟩

/-! ## Validation (section 2.4, V1 to V26) -/

theorem test_validate_ok : [configured 44100 2 0x30310 1000000000 1000000000, configured 44100 2 0x30310 1000000000 500000000,
    configured 44100 1 0x30310 1000000000 1000000001, configured 1 1 0x30008 1000000000 1000000000,
    configured 3 1 0x30008 500000000 500000000, configured 44100 1 0x30310 22676 22676,
    configured 8000 1 0x30038 1000000000 1000000000, configured 100000 1 0x30310 1000000000 2000000000,
    configured 1000000000 1 0x30008 18446744073709551615 18446744073709551615,
    configured 8000 2 0x30310 1000000000 18446744073709551615].map (State.validate testParams) =
      List.replicate 10 .ok := by decide

theorem test_validate_bad : [configured 44100 1 0x30310 22675 22675, configured 8000 1 0x30310 0 0,
    configured 8000 0 0x30310 1000000000 1000000000, configured 8000 1 0x30300 1000000000 1000000000,
    configured 8000 1 0x3030C 1000000000 1000000000, configured 8000 1 0x30340 1000000000 1000000000,
    configured 8000 1 0x303FF 1000000000 1000000000, configured 0 1 0x30310 1000000000 1000000000,
    configured 8000 0 0x30340 1000000000 1000000000].map (State.validate testParams) =
      List.replicate 9 .badParameters := by decide

theorem test_validate_unsupported : [configured 8000 1 0x30310 0 1000000000, configured 8000 1 0x30310 100 1000000000,
    configured 8000 9 0x30310 1000000000 1000000000, configured 100001 1 0x30310 1000000000 2000000000,
    configured 1000000001 1 0x30008 18446744073709551615 18446744073709551615].map (State.validate testParams) =
      List.replicate 5 .unsupportedConfig := by decide

/-- V4, V18 and V24: mode, P, N, frameBytes, wordMax. -/
theorem test_derived_constants : ([configured 44100 2 0x30310 1000000000 500000000,
    configured 8000 1 0x30038 1000000000 1000000000,
    configured 1000000000 1 0x30008 18446744073709551615 18446744073709551615].map State.configure).map
      (fun s => (s.mode, s.P.toNat, s.N.toNat, s.frameBytes.toNat, s.wordMax.toNat)) =
    [(.circular, 22049, 88200, 4, 32768), (.reset, 7999, 0, 7, 36028797018963968),
     (.reset, 18446744073709551614, 0, 1, 128)] := by decide

/-! ## The word decoder (section 2.5), in the order (LE, signed), (LE, unsigned), (BE, signed), (BE, unsigned) -/

/-- The four readings of one word. -/
def readings (word : List Byte) : List Int :=
  let w := 8 * word.length
  [decodeWord w true true word, decodeWord w true false word, decodeWord w false true word, decodeWord w false false word]

theorem test_decode_words_8_16_24 : readings [0x80] = [-128, 0, -128, 0] ∧ readings [0x7F] = [127, -1, 127, -1] ∧
    readings [0x00] = [0, -128, 0, -128] ∧ readings [0x00, 0x80] = [-32768, 0, 128, -32640] ∧
    readings [0x7F, 0xFF] = [-129, 32639, 32767, -1] ∧ readings [0x01, 0x02] = [513, -32255, 258, -32510] ∧
    readings [0x01, 0x02, 0x03] = [197121, -8191487, 66051, -8322557] ∧
    readings [0xFF, 0xFF, 0xFF] = [-1, 8388607, -1, 8388607] := by decide

theorem test_decode_words_32_to_56 : readings [0x01, 0x02, 0x03, 0x04] = [67305985, -2080177663, 16909060, -2130574588] ∧
    readings [0x01, 0x02, 0x03, 0x04, 0x05] = [21542142465, -528213671423, 4328719365, -545427094523] ∧
    readings [0x00, 0x00, 0x00, 0x00, 0x00, 0x80] = [-140737488355328, 0, 128, -140737488355200] ∧
    readings [0x7F, 0xFF, 0xFF, 0xFF, 0xFF, 0xFF, 0xFF] =
      [-129, 36028797018963839, 36028797018963967, -1] ∧
    readings [0x01, 0x02, 0x03, 0x04, 0x05, 0x06, 0x07] =
      [1976943448883713, -34051853570080255, 283686952306183, -35745110066657785] := by decide

/-! ## Carry-over (section 2.6) -/

/-- Stereo, 16-bit, P = 7999, three bytes of the stream already sent: one sample is not yet a frame. -/
def carried : State := (configured 8000 2 0x310 1000000000 1000000000).writeTransaction testParams [1, 0, 2]

theorem test_carry_over : carried.pend = [1, 0, 2] ∧ streamAfter carried [0, 3, 0, 4, 0] = (7995, 4, 30, 4, 0) ∧
    (carried.writeTransaction testParams [0, 3, 0, 4, 0]).result = 5 := by decide

/-- R65, R142: the words of a stereo frame come channel 0 first. -/
theorem test_frame_order : carried.frameSamples [1, 0, 2, 0] = [1, 2] ∧
    { carried with format := 0x210 }.frameSamples [1, 0, 2, 0] = [256, 512] := by decide

/-! ## The window (section 2.7): W1 to W5 by the last WRITE of each -/

/-- CIRCULAR with N = 3 holding the squares 1, 4, 9. -/
def window3 : State := { State.reset with mode := .circular, N := 3, fill := 3, sum := 14, buf := [(0, 1), (1, 4), (2, 9)] }

theorem test_window_steady : ((window3.windowFold 16).sum.toNat, (window3.windowFold 16).pos.toNat,
    (window3.windowFold 16).fill.toNat, (window3.windowFold 16).buf) = (29, 1, 3, [(0, 16), (1, 4), (2, 9)]) := by decide

theorem test_window_growth : (({ window3 with fill := 2, pos := 2, sum := 5, buf := [(0, 1), (1, 4)] } : State).windowFold 9) =
    { window3 with pos := 0 } := by decide

/-- W2: with N = 1 each square evicts the one before. -/
theorem test_window_of_one : let s : State := { State.reset with mode := .circular, N := 1, fill := 1, sum := 9, buf := [(0, 9)] }
    ((s.windowFold 4).sum.toNat, (s.windowFold 4).fill.toNat, (s.windowFold 4).pos.toNat) = (4, 1, 0) := by decide

/-- W4: no wrap at the top of the range. -/
theorem test_window_top : let s : State := { State.reset with
      mode := .circular, N := 2, fill := 1, pos := 1, sum := BitVec.ofNat 176 (2 ^ 110), buf := [(0, BitVec.ofNat 111 (2 ^ 110))] }
    (s.windowFold (BitVec.ofNat 111 (2 ^ 110))).sum.toNat = 2 ^ 111 := by decide

/-- W5: the reports of N = 4, P = 1. -/
theorem test_window_reports : reported (configured 1 1 0x10308 4000000000 2000000000) [1, 1, 1, 1, 1, 1] =
    [(1, 2, 2, 0), (1, 4, 4, 0), (1, 4, 4, 0)] := by decide

/-! ## The peak (section 2.8) -/

theorem test_peak : ((({ State.reset with peak := 5 } : State).peakFold (-7)).peakFold 6).peak.toNat = 7 ∧
    (State.reset.peakFold (-(2 ^ 55))).peak.toNat = 2 ^ 55 := by decide

/-- K6: without PEAK_EN the peak is tracked and cleared without an event. -/
theorem test_peak_not_observed : reported (configured 1 1 0x00308 2000000000 2000000000) [5, 4] = [] ∧
    streamAfter (configured 1 1 0x00308 2000000000 2000000000) [5, 4] = (1, 0, 0, 0, 0) ∧
    streamAfter (configured 1 1 0x00308 2000000000 2000000000) [5, 4, 3] = (0, 1, 9, 3, 0) := by decide

/-! ## Reports (section 2.9, S1 to S8) -/

theorem test_reports_every_sample : reported (configured 1 1 0x30310 1000000000 1000000000) (samples16 [1, -2]) =
    [(1, 1, 1, 0), (2, 0, 1, 0), (1, 1, 4, 0), (2, 0, 2, 0)] := by decide

theorem test_reports_inside_a_frame : reported (configured 8000 2 0x30310 375000 375000) (samples16 [1, 2, 3, 4, 5, 6]) =
    [(1, 3, 14, 0), (2, 0, 3, 0), (1, 3, 77, 0), (2, 0, 6, 0)] ∧
    streamAfter (configured 8000 2 0x30310 375000 375000) (samples16 [1, 2, 3, 4, 5, 6]) = (2, 0, 0, 0, 0) := by decide

theorem test_reports_short_window : reported (configured 8000 1 0x30310 250000 500000) (samples16 [1, 2, 3, 4]) =
    [(1, 2, 25, 0), (2, 0, 4, 0)] ∧
    streamAfter (configured 8000 1 0x30310 250000 500000) (samples16 [1, 2, 3, 4]) = (3, 2, 25, 0, 0) := by decide

theorem test_reports_long_window : reported (configured 8000 1 0x30310 1000000 250000) (samples16 [1, 2, 3]) =
    [(1, 2, 5, 0), (2, 0, 2, 0)] ∧
    streamAfter (configured 8000 1 0x30310 1000000 250000) (samples16 [1, 2, 3]) = (0, 3, 14, 3, 3) := by decide

theorem test_reports_silence : reported (configured 8000 1 0x30310 250000 250000) (samples16 [0, 0, 0, 0, 0]) =
    [(1, 2, 0, 2), (2, 0, 0, 2), (1, 2, 0, 2), (2, 0, 0, 2)] := by decide

/-- S6: without observers the block decodes and counts all the same (R173). -/
theorem test_reports_no_observers : reported (configured 8000 1 0x00310 250000 250000) (samples16 [1, 2, 3, 4, 5]) = [] ∧
    streamAfter (configured 8000 1 0x00310 250000 250000) (samples16 [1, 2, 3, 4, 5]) = (0, 1, 25, 5, 0) := by decide

theorem test_reports_too_few : reported (configured 8000 1 0x30310 1000000000 1000000000) (samples16 [1, 2, 3]) = [] ∧
    streamAfter (configured 8000 1 0x30310 1000000000 1000000000) (samples16 [1, 2, 3]) = (7996, 3, 14, 3, 0) := by decide

theorem test_reports_rms_only : reported (configured 8000 2 0x10310 375000 375000) (samples16 [1, 2, 3, 4, 5, 6]) =
    [(1, 3, 14, 0), (1, 3, 77, 0)] := by decide

/-! ## The WRITEs of the programs (section 3) -/

/-- Program 2, transaction 8. -/
theorem test_program_2 : reported (configured 8000 2 0x30008 250000 375000) [0x81, 0x7E, 0x83, 0x7C, 0x80, 0x00, 0xFF] =
    [(1, 3, 14, 0), (2, 0, 3, 0), (1, 4, 16409, 0), (2, 0, 128, 1)] := by decide

/-- Program 2 after its transaction 8. -/
def program2 : State := (configured 8000 2 0x30008 250000 375000).writeTransaction testParams
  [0x81, 0x7E, 0x83, 0x7C, 0x80, 0x00, 0xFF]

/-- Transaction 9 leaves the end state. -/
theorem test_program_2_end : streamAfter program2 [0x85, 0x82] = (0, 4, 32538, 127, 0) ∧
    (program2.writeTransaction testParams [0x85, 0x82]).buf = [(0, 0), (1, 16384), (2, 16129), (3, 25)] := by decide

/-- Program 4, transaction 8. -/
theorem test_program_4 : reported (configured 1 1 0x30138 2000000000 1000000000)
      [0, 0, 0, 0, 0, 0, 0, 0xFF, 0xFF, 0xFF, 0xFF, 0xFF, 0xFF, 0xFF, 0, 0, 0, 0, 0, 0, 0x80] =
    [(1, 1, 1298074214633706907132624082305024, 1), (2, 0, 36028797018963968, 1),
     (1, 2, 2596148429267413742207654126682113, 0), (2, 0, 36028797018963967, 0),
     (1, 2, 1298074214633706835075030044377089, 0), (2, 0, 0, 2)] := by decide

/-! ## dB values (section 2.10): the fixed points, for the machine's own parameters -/

theorem test_db_fixed_points : params.dbfnPeak 0 16 = doubleNegInf ∧ params.dbfnPeak 32768 16 = 0 ∧
    params.dbfnRms 0 5 16 = doubleNegInf ∧ params.dbfnRms (2 ^ 30) 1 16 = 0 ∧ params.dbfnRms (2 ^ 110) 1 56 = 0 := by
  refine ⟨rfl, rfl, rfl, rfl, rfl⟩

/-- Two patterns of binary64 by hand: −3.0 is 1.5 · 2, and 1.5 has a biased exponent of 1023. -/
theorem test_double_value : doubleValue 0xC008000000000000#64 = -3 ∧ doubleValue 0x3FF8000000000000#64 = 3 / 2 := by
  have fraction (b : Double) (h : (b.extractLsb' 0 52).toNat = 2 ^ 51) (e : Nat) (he : (b.extractLsb' 52 11).toNat = e + 1) :
      doubleValue b = if b.msb then -((2 ^ 52 + 2 ^ 51) * (2 : ℚ) ^ (((e + 1 : Nat) : ℤ) - 1075))
        else (2 ^ 52 + 2 ^ 51) * (2 : ℚ) ^ (((e + 1 : Nat) : ℤ) - 1075) := by
    simp only [doubleValue, h, he, if_neg (Nat.succ_ne_zero e)]
    norm_num
  constructor
  · rw [fraction _ (by decide) 1023 (by decide), if_pos (by decide)]
    norm_num
  · rw [fraction _ (by decide) 1022 (by decide), if_neg (by decide)]
    norm_num

/-! ## Witnesses: the states they use -/

/-- The smallest parameters R7 allows. -/
def leastParams : Config.Params := { testParams with maxChannels := 1, maxWindowSlots := 1 }

/-- Parameters of some hardware (R7). -/
structure SomeHardware (p : Config.Params) : Prop where
  channels : 1 ≤ p.maxChannels
  slots : 1 ≤ p.maxWindowSlots

/-- The machine's own parameters are those of some hardware. -/
theorem params_hardware : SomeHardware params := ⟨by simp [params], by simp [params]⟩

/-- What the smallest hardware runs, every hardware runs. -/
theorem validates_of_least {p : Config.Params} (hp : SomeHardware p) {s : State} (h : s.validate leastParams = .ok) :
    s.validate p = .ok := by
  obtain ⟨hb, hu⟩ := (State.validate_ok_iff leastParams s).mp h
  refine (State.validate_ok_iff p s).mpr ⟨hb, ?_⟩
  have hc : leastParams.maxChannels ≤ p.maxChannels := hp.channels
  have hw : leastParams.maxWindowSlots ≤ p.maxWindowSlots := hp.slots
  simp only [State.configUnsupported, Bool.or_eq_false_iff, Bool.and_eq_false_iff, beq_eq_false_iff_ne,
    decide_eq_false_iff_not] at hu ⊢
  obtain ⟨⟨⟨h1, h2⟩, h3⟩, h4⟩ := hu
  exact ⟨⟨⟨by omega, h2⟩, h3⟩, h4.imp id (by omega)⟩

/-- Mono, 8-bit, signed, both observers, RESET mode with P = 1 (Q = 2). -/
def monoReset : State := configured 1 1 0x30208 2000000000 2000000000

/-- The same in CIRCULAR mode with N = 1 and P = 1. -/
def monoCircular : State := configured 1 1 0x30208 1000000000 2000000000

theorem monoReset_valid : monoReset.validate params = .ok := validates_of_least params_hardware (by decide)

theorem monoCircular_valid : monoCircular.validate params = .ok := validates_of_least params_hardware (by decide)

/-- RUNNING in RESET mode after the sample 5; the host has sent a soft reset. -/
def runningReset : State := { monoReset.configure with
  fill := 1, sum := 25, peak := 5, countdown := 0, input := (encode (.wrCtrl 1)).map .byte }

/-- RUNNING in CIRCULAR mode after the sample 5: the window is full; the host has sent one more sample. -/
def runningCircular : State := { monoCircular.configure with
  buf := [(0, 25)], fill := 1, sum := 25, peak := 5, countdown := 0, input := (encode (.write [7])).map .byte }

theorem runningReset_inv {p : Config.Params} (hp : SomeHardware p) : Inv p runningReset where
  reserved := by decide
  lastCode := by decide
  buf := by decide
  unconfigured h := absurd h (by decide)
  running _ :=
    { configured :=
        { valid := validates_of_least hp (by decide), mode := by decide, wordBytes := by decide
          frameBytes_pos := by decide, frameBytes := by decide, wordMax := by decide, period := by decide, slots := by decide }
      pend := by decide, countdown := by decide, peak := by decide, lastCode := by decide
      circular := fun h => absurd h (by decide)
      reset := fun _ => { fill := by decide, pos := by decide, buf := by decide, sum := by decide } }

theorem runningCircular_inv {p : Config.Params} (hp : SomeHardware p) : Inv p runningCircular where
  reserved := by decide
  lastCode := by decide
  buf := by decide
  unconfigured h := absurd h (by decide)
  running _ :=
    { configured :=
        { valid := validates_of_least hp (by decide), mode := by decide, wordBytes := by decide
          frameBytes_pos := by decide, frameBytes := by decide, wordMax := by decide, period := by decide, slots := by decide }
      pend := by decide, countdown := by decide, peak := by decide, lastCode := by decide
      circular := fun _ => { fill_le := by decide, pos_lt := by decide, growth := by decide, slots := by decide
                             squares := by decide, sum := by decide }
      reset := fun h => absurd h (by decide) }

/-! ## Witnesses, one theorem per obligation with hypotheses -/

theorem witness_EveryResetSetsEveryResetValue : (1 : Word).getLsbD 0 = true ∧
    decode [] = .error .nothing ∧ decode [0x24, 0, 0, 0x10, 1, 0, 0] = .error .data ∧
    ({ State.reset with input := [.byte 0x24, .byte 0, .byte 0, .byte 0x10, .byte 1, .byte 0, .byte 0, .reset] } : State).input =
      [0x24, 0, 0, 0x10, 1, 0, 0].map .byte ++ .reset :: [] := by decide

theorem witness_HardwareResetDiscardsAPartTransaction : (0xFFFFFFFF : Word).getLsbD 0 = true ∧
    decode [0, 0, 0, 0x30, 2, 0, 0, 0, 9] = .error .payload ∧
    ({ runningReset with input := [0, 0, 0, 0x30, 2, 0, 0, 0, 9].map .byte ++ [.reset, .byte 1] } : State).input =
      [0, 0, 0, 0x30, 2, 0, 0, 0, 9].map .byte ++ .reset :: [.byte 1] := by decide

theorem witness_StepRunsTheTransactionSent : (Instr.wrReservedHigh 0xFC 5).wf = true ∧
    (State.reset.sendFirst [0xFC, 0, 0, 0x10, 5, 0, 0, 0]).input =
      (encode (.wrReservedHigh 0xFC 5)).map .byte ++ [] := by decide

theorem witness_StepWaitsForMissingBytes : decode [] = .error .nothing ∧ State.reset.input = ([] : List Byte).map .byte ∧
    decode [0, 0, 0] = .error .header ∧ (State.reset.sendFirst [0, 0, 0]).input = [0, 0, 0].map .byte := by decide

theorem witness_DecodeGivesBackEveryEncodedTransaction : (Instr.wrReservedHigh 0x80 5).wf = true ∧
    (Instr.rdReservedHigh 0xFC).wf = true ∧ (Instr.illegal 0x10000001).wf = true ∧ (Instr.write []).wf = true ∧
    (Instr.wrRate 0xFFFFFFFF).wf = true := by decide

theorem witness_EveryDecodedTransactionIsItsBytes :
    decode [0, 0, 0, 0x30, 1, 0, 0, 0, 7, 8] = .ok (.write [7], [8]) ∧
    decode [1, 0, 0, 0x30, 1] = .ok (.illegal 0x30000001, [1]) := by decide

theorem witness_ProperPrefixesAreIncomplete : (Instr.write [7]).wf = true ∧ 8 < (encode (.write [7])).length ∧
    0 < (encode .rdRate).length := by decide

theorem witness_HeadersAreIllegalExactlyAsListed : IllegalHeaderNumber (0x0FFFFFFF : Word).toNat ∧
    IllegalHeaderNumber (0x10000100 : Word).toNat ∧ IllegalHeaderNumber (0x20000002 : Word).toNat ∧
    IllegalHeaderNumber (0x38000000 : Word).toNat ∧ ¬ IllegalHeaderNumber (0x200000FC : Word).toNat := by
  simp [IllegalHeaderNumber]

theorem witness_ConfigurationWritesStoreUntilLocked :
    State.reset.phase = .unconfigured ∧ runningReset.phase = .running := by decide

theorem witness_ResultAndControlTransactions :
    (0xFFFFFFFE : Word).getLsbD 0 = false ∧ (1 : Word).getLsbD 0 = true := by decide

theorem witness_PendReadAnswersThePendingLength : running23.pend.length < 2 ^ 32 := by decide

theorem witness_ReservedOffsetsIgnoreWritesAndReadZero : (0x80 ≤ (0x80 : Byte).toNat ∧ (0x80 : Byte).toNat % 4 = 0) ∧
    (0x80 ≤ (0xFC : Byte).toNat ∧ (0xFC : Byte).toNat % 4 = 0) ∧ (0x01 : Byte).toNat % 4 ≠ 0 := by decide

theorem witness_RegisterReadsHaveNoSideEffect :
    isRegRead .rdStatus = true ∧ isRegRead (.rdReservedHigh 0xFC) = true ∧ isRegRead .rdPend = true := by decide

/-- The first clause: each item of R129 at its boundary (no channel, 64-bit words, no rate, an interval just under one
sample). -/
theorem witness_FailedValidationDiscardsThePayload : State.reset.phase = .unconfigured ∧ BadConfiguration State.reset ∧
    BadConfiguration (configured 8000 0 0x30310 1000000000 1000000000) ∧
    BadConfiguration (configured 8000 1 0x30340 1000000000 1000000000) ∧
    BadConfiguration (configured 0 1 0x30310 1000000000 1000000000) ∧
    BadConfiguration (configured 44100 1 0x30310 22675 22675) := by
  refine ⟨rfl, .inl rfl, .inl rfl, .inr (.inl (.inr (.inr (by decide)))), .inr (.inr (.inl rfl)), .inr (.inr (.inr (by decide)))⟩

/-- The second clause: V25 and V10 on any hardware; V20 and V22 on the hardware they name. -/
theorem witness_FailedValidationDiscardsThePayload_unsupported :
    let v25 := configured 1000000001 1 0x30008 18446744073709551615 18446744073709551615
    let v10 := configured 8000 1 0x30310 0 1000000000
    v25.phase = .unconfigured ∧ ¬ BadConfiguration v25 ∧ ExceedsHardware params v25 ∧
    v10.phase = .unconfigured ∧ ¬ BadConfiguration v10 ∧ ExceedsHardware params v10 ∧
    ExceedsHardware testParams (configured 8000 9 0x30310 1000000000 1000000000) ∧
    ExceedsHardware testParams (configured 100001 1 0x30310 1000000000 2000000000) := by
  refine ⟨rfl, ?_, .inr (.inl (by decide)), rfl, ?_, .inr (.inr (.inl (by decide))), .inl (by decide),
    .inr (.inr (.inr (by decide)))⟩ <;> unfold BadConfiguration <;> decide

theorem witness_FirstWriteAfterResetIsBad : (configured 8000 0 0x30310 1 1).channels.toNat = 0 ∧
    wordSizeNumber (configured 8000 1 0x30300 1 1) = 0 ∧ (configured 0 1 0x30310 1 1).rate.toNat = 0 ∧
    AllAtReset State.reset ∧ AllAtReset { State.reset with out := [.response .ok 5] } := by
  refine ⟨by decide, by decide, by decide, ?_, ?_⟩ <;> constructor <;> first | rfl | (constructor <;> rfl)

theorem witness_FirstGoodWriteConfiguresAndRuns :
    (monoReset.phase = .unconfigured ∧ ¬ BadConfiguration monoReset ∧ ¬ ExceedsHardware params monoReset) ∧
    (monoCircular.phase = .unconfigured ∧ ¬ BadConfiguration monoCircular ∧ ¬ ExceedsHardware params monoCircular) := by
  have bad : ¬ BadConfiguration monoReset ∧ ¬ BadConfiguration monoCircular := by
    unfold BadConfiguration
    decide
  have unsupported (s : State) (hc : s.channels.toNat = 1) (hq : intervalNumber s = 2)
      (hw : windowNumber s = observeNumber s ∨ windowSlotsNumber s = 1) : ¬ ExceedsHardware params s := by
    unfold ExceedsHardware params
    simp only [hc, hq]
    omega
  exact ⟨⟨rfl, bad.1, unsupported _ (by decide) (by decide) (by decide)⟩,
    ⟨rfl, bad.2, unsupported _ (by decide) (by decide) (by decide)⟩⟩

theorem witness_RunningWriteAcceptsEveryPayload : runningReset.phase = .running ∧ runningCircular.phase = .running := by decide

theorem witness_PayloadDecodesByWholeFrames : carried.pend.length < carried.frameBytes.toNat ∧ carried.pend.length = 3 := by decide

theorem witness_SplittingAWriteChangesOnlyResponses : carried.phase = .running := by decide

theorem witness_SamplesAndSquaresStayInRange :
    ([0x80] : List Byte).length = 1 ∧ decodeWord (8 * 1) true true [0x80] = -128 ∧
    ([0, 0, 0, 0, 0, 0, 0x80] : List Byte).length = 7 ∧
    decodeWord (8 * 7) true true [0, 0, 0, 0, 0, 0, 0x80] = -(2 ^ 55) := by decide

theorem witness_EncodingsDifferInTheTopBit : 1 ≤ 1 ∧ 1 < 2 ^ 1 ∧ 1 ≤ 56 ∧ 2 ^ 56 - 1 < 2 ^ 56 := by decide

/-- A word at each side of the bias, in both clauses of the signed value, and the raw value 0. -/
theorem witness_SampleValueFollowsTheEncoding :
    ([0x80, 0x00] : List Byte) ≠ [] ∧ 2 ^ (8 * 2 - 1) ≤ rawOfWord false [0x80, 0x00] ∧
    ([0xFF, 0x7F] : List Byte) ≠ [] ∧ rawOfWord true [0xFF, 0x7F] < 2 ^ (8 * 2 - 1) ∧ rawOfWord true [0] < 2 ^ (8 * 1 - 1) := by
  decide

/-- Three pending bytes of a 4-byte frame, which one more byte completes; and three bytes of which none completes it. -/
theorem witness_FrameWordsAreConsecutiveSlices : (carried.pend ++ [0]).length = carried.frameBytes.toNat ∧
    (({ carried with pend := [] } : State).pend ++ [0]).length ≠ carried.frameBytes.toNat ∧
    (carried.pend ++ [0]).length = carried.channels.toNat * carried.wordBytes.toNat := by decide

/-- A state in the growth phase and one in the steady phase, with every premise of the clause on the sum. -/
theorem witness_CircularFoldReplacesTheSlotAtTheCursor :
    (monoCircular.configure.mode = .circular ∧ monoCircular.configure.fill.toNat ≤ monoCircular.configure.N.toNat ∧
      monoCircular.configure.pos.toNat < monoCircular.configure.N.toNat ∧
      monoCircular.configure.fill.toNat < monoCircular.configure.N.toNat ∧
      monoCircular.configure.sum.toNat + (25 : Square).toNat < 2 ^ 176) ∧
    (runningCircular.mode = .circular ∧ runningCircular.fill.toNat ≤ runningCircular.N.toNat ∧
      runningCircular.pos.toNat < runningCircular.N.toNat ∧ runningCircular.fill = runningCircular.N ∧
      (runningCircular.readSlot runningCircular.pos.toNat).toNat ≤ runningCircular.sum.toNat ∧
      runningCircular.sum.toNat + (16 : Square).toNat < 2 ^ 176) := by decide

theorem witness_ResetFoldAndPeakFoldAccumulate : runningReset.mode = .reset ∧
    runningReset.sum.toNat + (16 : Square).toNat < 2 ^ 176 ∧ runningReset.fill.toNat + 1 < 2 ^ 64 ∧ IsSample (-(2 ^ 55)) := by
  refine ⟨rfl, by decide, by decide, ?_⟩
  unfold IsSample
  decide

theorem witness_ScheduleReportsAtZero :
    running23.countdown.toNat ≠ 0 ∧ runningReset.countdown.toNat = 0 ∧ runningReset.mode = .reset ∧
    runningCircular.countdown.toNat = 0 ∧ runningCircular.mode = .circular := by decide

theorem monoReset_start : StreamStart monoReset.configure := ⟨rfl, rfl, rfl, rfl, rfl, rfl⟩

theorem monoCircular_start : StreamStart monoCircular.configure := ⟨rfl, rfl, rfl, rfl, rfl, rfl⟩

/-- Samples at both ends of the range. -/
theorem samples_are_samples : ∀ x ∈ [5, -(2 ^ 55), 2 ^ 55], IsSample x := by
  unfold IsSample
  decide

theorem witness_SlidingWindowSumIsTheRecentSquares : monoCircular.configure.mode = .circular ∧
    0 < monoCircular.configure.N.toNat ∧ StreamStart monoCircular.configure ∧ ∀ x ∈ [5, -(2 ^ 55), 2 ^ 55], IsSample x :=
  ⟨rfl, by decide, monoCircular_start, samples_are_samples⟩

theorem witness_ResetModeSumIsTheIntervalSoFar : monoReset.configure.mode = .reset ∧
    monoReset.configure.P.toNat + 1 < 2 ^ 64 ∧ StreamStart monoReset.configure ∧ ∀ x ∈ [5, -(2 ^ 55), 2 ^ 55], IsSample x :=
  ⟨rfl, by decide, monoReset_start, samples_are_samples⟩

theorem witness_CountdownAndPeakFollowTheCadence :
    StreamStart monoReset.configure ∧ ∀ x ∈ [5, -(2 ^ 55), 2 ^ 55], IsSample x :=
  ⟨monoReset_start, samples_are_samples⟩

/-- Three samples with P + 1 = 2: one report has fired. -/
theorem witness_ReportStreamIsTheReference : StreamStart monoCircular.configure ∧
    monoCircular.configure.P.toNat + 1 < 2 ^ 64 ∧ (monoCircular.configure.mode = .circular → 0 < monoCircular.configure.N.toNat) ∧
    (∀ x ∈ [5, -(2 ^ 55), 2 ^ 55], IsSample x) ∧ monoCircular.configure.P.toNat + 1 < ([5, -(2 ^ 55), 2 ^ 55] : List Int).length :=
  ⟨monoCircular_start, by decide, by decide, samples_are_samples, by decide⟩

theorem witness_HistoryHoldsAtTheStart :
    (StreamStart monoCircular.configure ∧ monoCircular.configure.P.toNat + 1 < 2 ^ 64 ∧
      (monoCircular.configure.mode = .circular → 0 < monoCircular.configure.N.toNat)) ∧
    (StreamStart monoReset.configure ∧ monoReset.configure.P.toNat + 1 < 2 ^ 64 ∧
      (monoReset.configure.mode = .circular → 0 < monoReset.configure.N.toNat)) :=
  ⟨⟨monoCircular_start, by decide, by decide⟩, monoReset_start, by decide, by decide⟩

/-- The sample 5 since the start, in each mode; then a sample of the largest magnitude, at which a report fires. -/
theorem witness_SampleStepKeepsTheHistory :
    HoldsHistory testParams [] runningCircular [5] ∧ HoldsHistory testParams [] runningReset [5] ∧ IsSample (-(2 ^ 55)) := by
  refine ⟨⟨?_, by decide, by decide, by decide, fun _ => ⟨by decide, by decide, by decide, by decide, ?_⟩,
    fun h => absurd h (by decide), by decide⟩, ⟨?_, by decide, by decide, by decide, fun h => absurd h (by decide),
    fun _ => ⟨by decide, by decide, by decide⟩, by decide⟩, by unfold IsSample; decide⟩
  · simp [IsSample]
  · rintro (_ | i) x h _
    · obtain rfl : 5 = x := by simpa using h
      decide
    · simp at h
  · simp [IsSample]

theorem witness_NoReportBeforeTheFirstBoundary :
    StreamStart monoReset.configure ∧ ([5] : List Int).length < monoReset.configure.P.toNat + 1 :=
  ⟨monoReset_start, by decide⟩

theorem witness_UnwrittenSlotsAreNeverObserved : StreamStart monoCircular.configure ∧
    (monoCircular.configure.mode = .circular → 0 < monoCircular.configure.N.toNat) :=
  ⟨monoCircular_start, by decide⟩

theorem witness_FirstWriteReportsExactlyTheReference :
    (monoReset.phase = .unconfigured ∧ monoReset.validate params = .ok) ∧
    (monoCircular.phase = .unconfigured ∧ monoCircular.validate params = .ok) :=
  ⟨⟨rfl, monoReset_valid⟩, ⟨rfl, monoCircular_valid⟩⟩

/-- A report with the squares 25 and 0, or 0 alone after the window has slid past 25, under parameters with the reference
rounding. -/
theorem witness_RmsEventDbIsTheNearestDouble : ∃ p, UsesReferenceDb p ∧
    (∃ events db div sum, Inv p runningReset ∧ runningReset.phase = .running ∧ (0 : Int).natAbs ≤ runningReset.wordMax.toNat ∧
      (runningReset.sampleStep p 0).out = runningReset.out ++ events ∧ .rmsEvent db div sum ∈ events ∧ 0 < sum.toNat) ∧
    (∃ events db div sum, Inv p runningCircular ∧ runningCircular.phase = .running ∧
      (0 : Int).natAbs ≤ runningCircular.wordMax.toNat ∧ (runningCircular.sampleStep p 0).out = runningCircular.out ++ events ∧
      .rmsEvent db div sum ∈ events ∧ sum.toNat = 0) := by
  obtain ⟨p, hc, hw, hp⟩ := exists_reference_params 1 1
  have hardware : SomeHardware p := ⟨hc.ge, hw.ge⟩
  exact ⟨p, hp, ⟨_, _, _, 25, runningReset_inv hardware, rfl, by decide, rfl, List.mem_cons_self, by decide⟩,
    _, _, _, 0, runningCircular_inv hardware, rfl, by decide, rfl, List.mem_cons_self, by decide⟩

/-- The peak of a report is that of the sample −128, full scale. -/
theorem witness_PeakEventDbIsTheNearestDouble : ∃ p, UsesReferenceDb p ∧
    ∃ events db peak, Inv p runningReset ∧ runningReset.phase = .running ∧ (-128 : Int).natAbs ≤ runningReset.wordMax.toNat ∧
      (runningReset.sampleStep p (-128)).out = runningReset.out ++ events ∧ .peakEvent db peak ∈ events ∧ 0 < peak.toNat := by
  obtain ⟨p, hc, hw, hp⟩ := exists_reference_params 1 1
  exact ⟨p, hp, _, _, 128, runningReset_inv ⟨hc.ge, hw.ge⟩, rfl, by decide, rfl,
    List.mem_cons_of_mem _ List.mem_cons_self, by decide⟩

theorem witness_OnlyWritesAndResetsChangeTheStream :
    exec (.wrRate 7) runningCircular = .next { runningCircular with lockFault := true, out := [.response .configLocked 0] } ∧
    isWrite (.wrRate 7) = false ∧ isSoftReset (.wrRate 7) = false ∧ isSoftReset (.wrCtrl 2) = false := ⟨rfl, rfl, rfl, rfl⟩

theorem witness_ConfigurationIsLockedInRunning : runningReset.phase = .running ∧
    exec (.write []) runningReset = .next (runningReset.acceptPayload params []) ∧ isSoftReset (.write []) = false :=
  ⟨rfl, rfl, rfl⟩

/-- A failed WRITE, a WRITE that validates, and a soft reset in RUNNING. -/
theorem witness_PhaseChangesOnlyByValidationAndReset :
    (∃ t, exec (.write [1]) State.reset = .next t) ∧ State.reset.phase = .unconfigured ∧
    (∃ t, exec (.write [1]) monoReset = .next t) ∧ isWrite (.write [1]) = true ∧ monoReset.validate params = .ok ∧
    (∃ t, exec (.wrCtrl 1) runningReset = .next t) ∧ runningReset.phase = .running ∧ isSoftReset (.wrCtrl 1) = true :=
  ⟨⟨_, rfl⟩, rfl, ⟨_, rfl⟩, rfl, monoReset_valid, ⟨_, rfl⟩, rfl, rfl⟩

theorem witness_StickyFlagsAreClearedOnlyByReset :
    (∃ t, exec (.wrRate 1) runningReset = .next t) ∧ isSoftReset (.wrRate 1) = false ∧
    (∃ t, exec (.illegal 0x40000000) runningReset = .next t) ∧ isSoftReset (.illegal 0x40000000) = false :=
  ⟨⟨_, rfl⟩, rfl, ⟨_, rfl⟩, rfl⟩

theorem witness_EveryStepKeepsTheInvariant :
    (Inv params runningCircular ∧ ∃ t, step runningCircular = .next t) ∧
    (Inv params runningReset ∧ ∃ t, step runningReset = .next t) :=
  ⟨⟨runningCircular_inv params_hardware, _, rfl⟩, runningReset_inv params_hardware, _, rfl⟩

theorem witness_TheSumStaysBelowItsBound :
    (Inv params runningCircular ∧ runningCircular.phase = .running) ∧ Inv params runningReset ∧ runningReset.phase = .running :=
  ⟨⟨runningCircular_inv params_hardware, rfl⟩, runningReset_inv params_hardware, rfl⟩

theorem witness_TheEvictedSlotHasBeenWritten : Inv params runningCircular ∧ runningCircular.phase = .running ∧
    runningCircular.mode = .circular ∧ runningCircular.fill = runningCircular.N :=
  ⟨runningCircular_inv params_hardware, rfl, rfl, by decide⟩

end Sys2Proof.Tests
end

-- Proofs: the step and the transaction sent (00_scope.md R3)
section
/-! PROOF. The decoder gives back every transaction the host can send, and the step performs it. -/

namespace Sys2Proof

/-- The reserved offsets of the table's last range, in numbers (40_host_registers.md R126). -/
theorem reservedHighOffset_iff (off : Byte) :
    reservedHighOffset off = true ↔ 0x80 ≤ off.toNat ∧ off.toNat % 4 = 0 := by
  simp only [reservedHighOffset, Bool.and_eq_true, decide_eq_true_eq, beq_iff_eq]

/-- A REG_WRITE in the reserved range decodes to itself (R126). -/
theorem decode_encode_wrReservedHigh {off : Byte} (h : reservedHighOffset off = true) (v : Word) (rest : List Byte) :
    decode (encode (.wrReservedHigh off v) ++ rest) = .ok (.wrReservedHigh off v, rest) := by
  obtain ⟨high, aligned⟩ := (reservedHighOffset_iff off).mp h
  rw [encode, decode_encodeRegWrite aligned, decodeRegWrite_reservedHigh high]

/-- A REG_READ in the reserved range decodes to itself (R126). -/
theorem decode_encode_rdReservedHigh {off : Byte} (h : reservedHighOffset off = true) (rest : List Byte) :
    decode (encode (.rdReservedHigh off) ++ rest) = .ok (.rdReservedHigh off, rest) := by
  obtain ⟨high, aligned⟩ := (reservedHighOffset_iff off).mp h
  rw [encode, decode_encodeRegRead aligned, decodeRegRead_reservedHigh high]

/-- An illegal header decodes to itself and consumes its four bytes only (30_encoding.md R75). -/
theorem decode_encode_illegal {header : Word} (h : headerIllegal header = true) (rest : List Byte) :
    decode (encode (.illegal header) ++ rest) = .ok (.illegal header, rest) := by
  rw [encode, decode_header, (classify_illegal_iff header).mpr h]

/-- The decoder gives back every well-formed transaction and the bytes after it (30_encoding.md R71). The listed registers
differ only in their offset, which the offset table of the decoder maps back to the constructor. -/
theorem decode_encode {i : Instr} (h : i.wf = true) (rest : List Byte) : decode (encode i ++ rest) = .ok (i, rest) := by
  cases i with
  | wrRate v | wrChannels v | wrFormat v | wrWindowLo v | wrWindowHi v | wrObserveLo v | wrObserveHi v | wrStatus v
  | wrResult v | wrCtrl v | wrPeriodLo v | wrPeriodHi v | wrWsampLo v | wrWsampHi v | wrCountLo v | wrCountHi v
  | wrFillLo v | wrFillHi v | wrPeakLo v | wrPeakHi v | wrPend v | wrPosLo v | wrPosHi v | wrSum0 v | wrSum1 v
  | wrSum2 v | wrSum3 v | wrSum4 v | wrSum5 v | wrReserved5C v | wrReserved78 v | wrReserved7C v =>
    exact decode_encodeRegWrite (by decide) v rest
  | rdRate | rdChannels | rdFormat | rdWindowLo | rdWindowHi | rdObserveLo | rdObserveHi | rdStatus | rdResult | rdCtrl
  | rdPeriodLo | rdPeriodHi | rdWsampLo | rdWsampHi | rdCountLo | rdCountHi | rdFillLo | rdFillHi | rdPeakLo | rdPeakHi
  | rdPend | rdPosLo | rdPosHi | rdSum0 | rdSum1 | rdSum2 | rdSum3 | rdSum4 | rdSum5 | rdReserved5C | rdReserved78
  | rdReserved7C =>
    exact decode_encodeRegRead (by decide) rest
  | wrReservedHigh off v => exact decode_encode_wrReservedHigh h v rest
  | rdReservedHigh off => exact decode_encode_rdReservedHigh h rest
  | write payload => exact decode_encodeWrite (of_decide_eq_true h) rest
  | illegal header => exact decode_encode_illegal h rest

end Sys2Proof

namespace Sys2Proof.Machine

/-- When the leading bytes hold a whole transaction, the block takes it and leaves the rest in place (R71). -/
theorem fetch_of_decode_ok {input : List HostItem} {i : Instr} {rest : List Byte}
    (h : decode (leadingBytes input).1 = .ok (i, rest)) :
    fetch input = .transaction i (rest.map .byte ++ (leadingBytes input).2) := by
  simp only [fetch, h]

/-- The bytes of a well-formed transaction, sent first, are fetched as it, and exactly they are consumed (20_memory.md R53). -/
theorem fetch_encode {i : Instr} (h : i.wf = true) (after : List HostItem) :
    fetch ((encode i).map .byte ++ after) = .transaction i after := by
  have leading := leadingBytes_append (encode i) after
  have decoded : decode (leadingBytes ((encode i).map .byte ++ after)).1 = .ok (i, (leadingBytes after).1) := by
    rw [leading, decode_encode h]
  rw [fetch_of_decode_ok decoded, leading, leadingBytes_parts]

/-- The step performs the transaction the block has fetched. -/
theorem step_of_fetch_transaction {s : State} {i : Instr} {after : List HostItem}
    (h : fetch s.input = .transaction i after) : step s = exec i { s with input := after } := by
  simp only [step, h]

/-- Settles O3: the bytes sent are fetched as the transaction, which the step then performs. -/
theorem stepRunsTheTransactionSent : Obligations.StepRunsTheTransactionSent := by
  intro i s after wf sent
  exact step_of_fetch_transaction (sent ▸ fetch_encode wf after)

end Sys2Proof.Machine
end

-- Proofs: the parameters of the machine (00_scope.md R7, 45_report_scheduler.md R177)
section
/-! PROOF. The dB functions of the machine keep the fixed points of R177 whatever their free part is, and the limits lie in
their ranges. -/

namespace Sys2Proof.Machine

theorem dbAdmissible_doublePosZero : dbAdmissible doublePosZero = true := by decide

/-- Narrowing makes every pattern admissible (R177 item 4). -/
theorem dbAdmissible_dbNarrow (b : Double) : dbAdmissible (dbNarrow b) = true := by
  unfold dbNarrow
  split
  · assumption
  · exact dbAdmissible_doublePosZero

/-! ## DBFN_RMS -/

theorem dbfnRmsOf_zero (free : Nat → Nat → Nat → Double) (div wsize : Nat) :
    dbfnRmsOf free 0 div wsize = doubleNegInf := if_pos rfl

/-- Full scale is +0.0 (R177 item 3): with a divisor of 1 or more it is not the zero sum of item 1. -/
theorem dbfnRmsOf_fullScale (free : Nat → Nat → Nat → Double) {div : Nat} (h : 0 < div) (wsize : Nat) :
    dbfnRmsOf free (div * 4 ^ (wsize - 1)) div wsize = doublePosZero := by
  have nonzero : div * 4 ^ (wsize - 1) ≠ 0 := by positivity
  rw [dbfnRmsOf, if_neg nonzero, if_pos rfl]

/-- Every nonzero sum has an admissible value: full scale is +0.0, and anything else is narrowed (R177 item 4). -/
theorem dbAdmissible_dbfnRmsOf (free : Nat → Nat → Nat → Double) {sum : Nat} (h : sum ≠ 0) (div wsize : Nat) :
    dbAdmissible (dbfnRmsOf free sum div wsize) = true := by
  rw [dbfnRmsOf, if_neg h]
  split
  · exact dbAdmissible_doublePosZero
  · exact dbAdmissible_dbNarrow _

/-! ## DBFN_PEAK -/

theorem dbfnPeakOf_zero (free : Nat → Nat → Double) (wsize : Nat) : dbfnPeakOf free 0 wsize = doubleNegInf := if_pos rfl

/-- Full scale is +0.0 (R177 item 2): it is a power of two, so not the zero peak of item 1. -/
theorem dbfnPeakOf_fullScale (free : Nat → Nat → Double) (wsize : Nat) :
    dbfnPeakOf free (2 ^ (wsize - 1)) wsize = doublePosZero := by
  have nonzero : 2 ^ (wsize - 1) ≠ 0 := by positivity
  rw [dbfnPeakOf, if_neg nonzero, if_pos rfl]

/-- Every nonzero peak has an admissible value: full scale is +0.0, and anything else is narrowed (R177 item 4). -/
theorem dbAdmissible_dbfnPeakOf (free : Nat → Nat → Double) {peak : Nat} (h : peak ≠ 0) (wsize : Nat) :
    dbAdmissible (dbfnPeakOf free peak wsize) = true := by
  rw [dbfnPeakOf, if_neg h]
  split
  · exact dbAdmissible_doublePosZero
  · exact dbAdmissible_dbNarrow _

/-! ## The parameters -/

/-- MAX_CHANNELS is 1 or more (R7). -/
theorem params_maxChannels_pos : 1 ≤ params.maxChannels := Nat.le_add_left 1 _

/-- MAX_WINDOW_SLOTS is from 1 to 2^64 − 1 (R7): it is one more than a remainder by 2^64 − 1. -/
theorem params_maxWindowSlots_range : 1 ≤ params.maxWindowSlots ∧ params.maxWindowSlots ≤ 2 ^ 64 - 1 :=
  ⟨Nat.le_add_left 1 _, Nat.succ_le_of_lt (Nat.mod_lt _ (by norm_num))⟩

/-- Settles O44: the limits by their construction, the dB functions by the lemmas about any free part. -/
theorem parametersKeepTheirRangesAndFixedPoints : Obligations.ParametersKeepTheirRangesAndFixedPoints where
  maxChannels := params_maxChannels_pos
  maxWindowSlots_pos := params_maxWindowSlots_range.1
  maxWindowSlots_le := params_maxWindowSlots_range.2
  rms_zero := dbfnRmsOf_zero Config.rmsDbFree
  peak_zero := dbfnPeakOf_zero Config.peakDbFree
  peak_full := dbfnPeakOf_fullScale Config.peakDbFree
  rms_full := fun _ w h => dbfnRmsOf_fullScale Config.rmsDbFree h w
  rms_other := fun _ div w h => dbAdmissible_dbfnRmsOf Config.rmsDbFree h div w
  peak_other := fun _ w h => dbAdmissible_dbfnPeakOf Config.peakDbFree h w

end Sys2Proof.Machine
end

-- Proofs: the samples of a stream (10_state.md R32)
section
/-! PROOF. The samples a report speaks of, one sample later: the most recent ones, their sum of squares and their largest
magnitude. -/

namespace Sys2Proof.Machine

/-! ## The most recent samples -/

theorem length_recent (n : Nat) (samples : List Int) : (recent n samples).length = min n samples.length := by
  rw [recent, List.length_drop]
  omega

@[simp] theorem recent_zero (samples : List Int) : recent 0 samples = [] := by
  simp [recent]

@[simp] theorem recent_nil (n : Nat) : recent n [] = [] := by
  simp [recent]

/-- The most recent samples are all of them where there are no more. -/
theorem recent_of_length_le {n : Nat} {samples : List Int} (h : samples.length ≤ n) : recent n samples = samples := by
  rw [recent, Nat.sub_eq_zero_of_le h, List.drop_zero]

/-- One sample later, one sample fewer of those before is recent. -/
theorem recent_succ_concat (n : Nat) (samples : List Int) (x : Int) :
    recent (n + 1) (samples ++ [x]) = recent n samples ++ [x] := by
  have shift : (samples ++ [x]).length - (n + 1) = samples.length - n := by simp
  rw [recent, recent, shift, List.drop_append_of_le_length (Nat.sub_le _ _)]

/-- The oldest of the recent samples, and the others. -/
theorem recent_succ_eq_cons {n : Nat} {samples : List Int} (h : n < samples.length) :
    recent (n + 1) samples = samples[samples.length - (n + 1)] :: recent n samples := by
  have shift : samples.length - (n + 1) + 1 = samples.length - n := by omega
  rw [recent, List.drop_eq_getElem_cons (by omega), shift, recent]

theorem mem_of_mem_recent {n : Nat} {samples : List Int} {x : Int} (h : x ∈ recent n samples) : x ∈ samples :=
  List.mem_of_mem_drop h

/-! ## Sums of squares -/

@[simp] theorem sumOfSquares_nil : sumOfSquares [] = 0 := rfl

@[simp] theorem sumOfSquares_cons (x : Int) (samples : List Int) :
    sumOfSquares (x :: samples) = x.natAbs ^ 2 + sumOfSquares samples := by
  simp [sumOfSquares]

@[simp] theorem sumOfSquares_concat (samples : List Int) (x : Int) :
    sumOfSquares (samples ++ [x]) = sumOfSquares samples + x.natAbs ^ 2 := by
  simp [sumOfSquares]

/-- The square of a sample is at most 2^110 (42_sample_decoder.md R148). -/
theorem IsSample.sq_le {x : Int} (h : IsSample x) : x.natAbs ^ 2 ≤ 2 ^ 110 :=
  Nat.pow_le_pow_left h 2

theorem sumOfSquares_le {samples : List Int} (h : ∀ x ∈ samples, IsSample x) :
    sumOfSquares samples ≤ samples.length * 2 ^ 110 := by
  induction samples with
  | nil => exact Nat.zero_le _
  | cons x samples ih =>
    obtain ⟨hx, hrest⟩ := List.forall_mem_cons.mp h
    have := hx.sq_le
    have := ih hrest
    rw [sumOfSquares_cons, List.length_cons]
    omega

/-- Fewer than 2^64 samples leave room in the running sum for one more (43_rolling_window.md R162). -/
theorem sumOfSquares_recent_lt {n : Nat} {samples : List Int} (h : ∀ x ∈ samples, IsSample x) (hn : n < 2 ^ 64) :
    sumOfSquares (recent n samples) < 2 ^ 175 := by
  have bound := sumOfSquares_le (samples := recent n samples) fun x hx => h x (mem_of_mem_recent hx)
  rw [length_recent] at bound
  omega

/-! ## Largest magnitudes -/

@[simp] theorem largestMagnitude_nil : largestMagnitude [] = 0 := rfl

@[simp] theorem largestMagnitude_concat (samples : List Int) (x : Int) :
    largestMagnitude (samples ++ [x]) = max (largestMagnitude samples) x.natAbs := by
  simp [largestMagnitude]

end Sys2Proof.Machine
end

-- Proofs: the sample step in numbers (43_rolling_window.md R154 to R158, 44_peak_tracker.md R164)
section
/-! PROOF. What a fold, the peak and the countdown hold after a sample step, as numbers, where nothing wraps. -/

namespace Sys2Proof.Machine

/-- The square of a sample is exact in its 111 bits (42_sample_decoder.md R148). -/
theorem squareOf_toNat {x : Int} (h : IsSample x) : (squareOf x).toNat = x.natAbs ^ 2 := by
  have := h.sq_le
  rw [squareOf, BitVec.toNat_ofNat, ← Nat.pow_two, Nat.mod_eq_of_lt (by omega)]

/-- A square is exact in the width of the running sum. -/
theorem toNat_setWidth_square (q : Square) : (q.setWidth 176).toNat = q.toNat := by
  rw [BitVec.toNat_setWidth, Nat.mod_eq_of_lt (by have := q.isLt; omega)]

/-! ## The CIRCULAR fold -/

section
variable {s : State} (circular : s.mode = .circular)
include circular

/-- The fill count grows until the window is full (R155, R156). -/
theorem State.windowFold_fill (q : Square) : (s.windowFold q).fill.toNat =
    if s.fill.toNat < s.N.toNat then s.fill.toNat + 1 else s.fill.toNat := by
  rw [State.windowFold_of_circular circular, State.windowFoldCircular_eq]
  by_cases growing : s.fill < s.N
  · have := s.N.isLt
    have room : s.fill.toNat < s.N.toNat := growing
    rw [if_pos growing, if_pos room, BitVec.toNat_add_of_lt (by simp; omega)]
    rfl
  · have full : ¬ s.fill.toNat < s.N.toNat := growing
    rw [if_neg growing, if_neg full]

/-- In the growth phase the fold adds the square and evicts nothing (R155). -/
theorem State.windowFold_sum_growth (growing : s.fill.toNat < s.N.toNat) {q : Square}
    (fits : s.sum.toNat + q.toNat < 2 ^ 176) : (s.windowFold q).sum.toNat = s.sum.toNat + q.toNat := by
  have room : s.fill < s.N := growing
  have nothing : (0 : Square).setWidth 176 = 0 := rfl
  rw [State.windowFold_of_circular circular, State.windowFoldCircular_eq, if_pos room, if_pos room, nothing, sub_zero,
    BitVec.toNat_add, toNat_setWidth_square, Nat.mod_eq_of_lt fits]

/-- In the steady phase the fold replaces the square in the slot at the cursor (R156). -/
theorem State.windowFold_sum_steady (steady : s.N.toNat ≤ s.fill.toNat) {q : Square}
    (evictable : (s.readSlot s.pos.toNat).toNat ≤ s.sum.toNat) (fits : s.sum.toNat + q.toNat < 2 ^ 176) :
    (s.windowFold q).sum.toNat = s.sum.toNat + q.toNat - (s.readSlot s.pos.toNat).toNat := by
  have full : ¬ s.fill < s.N := Nat.not_lt.mpr steady
  have added : (s.sum + q.setWidth 176).toNat = s.sum.toNat + q.toNat := by
    rw [BitVec.toNat_add, toNat_setWidth_square, Nat.mod_eq_of_lt fits]
  rw [State.windowFold_of_circular circular, State.windowFoldCircular_eq, if_neg full, if_neg full,
    BitVec.toNat_sub_of_le (by rw [BitVec.le_def, added, toNat_setWidth_square]; omega), added, toNat_setWidth_square]

/-- The cursor advances modulo the window (R157). -/
theorem State.windowFold_pos (window : 0 < s.N.toNat) (q : Square) :
    (s.windowFold q).pos.toNat = (s.pos.toNat + 1) % s.N.toNat := by
  have := Nat.mod_lt (s.pos.toNat + 1) window
  have := s.N.isLt
  rw [State.windowFold_of_circular circular, State.windowFoldCircular_eq, BitVec.toNat_ofNat, Nat.mod_eq_of_lt (by omega)]

theorem State.windowFold_buf (q : Square) : (s.windowFold q).buf = s.buf.write s.pos.toNat q := by
  rw [State.windowFold_of_circular circular, State.windowFoldCircular_eq]

/-- The slot at the cursor holds the new square (R154). -/
theorem State.windowFold_readSlot_pos (q : Square) : (s.windowFold q).readSlot s.pos.toNat = q :=
  State.readSlot_of_find? (by rw [State.windowFold_buf circular, Memory.find?_write_same])

/-- Every other slot keeps what it held (R154). -/
theorem State.windowFold_readSlot_other {slot : Nat} (other : slot ≠ s.pos.toNat) (q : Square) :
    (s.windowFold q).readSlot slot = s.readSlot slot := by
  rw [State.windowFold_of_circular circular]
  exact State.readSlot_writeSlot_other s q other

end

/-! ## The RESET fold -/

section
variable {s : State} (reset : s.mode = .reset)
include reset

/-- The RESET fold adds the square and counts it (R158). -/
theorem State.windowFold_reset (count : s.fill.toNat + 1 < 2 ^ 64) {q : Square} (fits : s.sum.toNat + q.toNat < 2 ^ 176) :
    (s.windowFold q).fill.toNat = s.fill.toNat + 1 ∧ (s.windowFold q).sum.toNat = s.sum.toNat + q.toNat := by
  rw [State.windowFold_of_reset reset, State.windowFoldReset_eq]
  refine ⟨?_, ?_⟩
  · rw [BitVec.toNat_add_of_lt (by simp; omega)]
    rfl
  · rw [BitVec.toNat_add, toNat_setWidth_square, Nat.mod_eq_of_lt fits]

/-- The RESET fold touches no slot. -/
theorem State.windowFold_reset_slots (q : Square) :
    (s.windowFold q).buf = s.buf ∧ (s.windowFold q).pos = s.pos := by
  rw [State.windowFold_of_reset reset, State.windowFoldReset_eq]
  exact ⟨rfl, rfl⟩

end

/-! ## The countdown and the peak -/

theorem State.countdown_eq_zero_iff (s : State) : s.countdown = 0 ↔ s.countdown.toNat = 0 :=
  BitVec.toNat_eq

/-- The countdown as a number (45_report_scheduler.md R168). -/
theorem State.sampleStep_countdown_toNat (p : Config.Params) (s : State) (x : Int) : (s.sampleStep p x).countdown.toNat =
    if s.countdown.toNat = 0 then s.P.toNat else s.countdown.toNat - 1 := by
  rw [State.sampleStep_countdown]
  by_cases due : s.countdown = 0
  · rw [if_pos due, if_pos (s.countdown_eq_zero_iff.mp due)]
  · have positive := mt s.countdown_eq_zero_iff.mpr due
    rw [if_neg due, if_neg positive, BitVec.toNat_sub_of_le (by rw [BitVec.le_def]; simp; omega)]
    rfl

/-- The larger magnitude is exact in 64 bits (R164). -/
theorem State.peakFold_peak_toNat (s : State) {x : Int} (h : IsSample x) :
    (s.peakFold x).peak.toNat = max s.peak.toNat x.natAbs := by
  have := s.peak.isLt
  unfold IsSample at h
  rw [State.peakFold, BitVec.toNat_ofNat, Nat.mod_eq_of_lt (by omega)]

/-- The peak as a number: the larger magnitude, and 0 after a report (R164, R171). -/
theorem State.sampleStep_peak_toNat (p : Config.Params) (s : State) {x : Int} (h : IsSample x) :
    (s.sampleStep p x).peak.toNat = if s.countdown.toNat = 0 then 0 else max s.peak.toNat x.natAbs := by
  rw [State.sampleStep_peak]
  by_cases due : s.countdown = 0
  · rw [if_pos due, if_pos (s.countdown_eq_zero_iff.mp due)]
    rfl
  · rw [if_neg due, if_neg (mt s.countdown_eq_zero_iff.mpr due)]
    exact s.peakFold_peak_toNat h

end Sys2Proof.Machine
end

-- Proofs: the history of samples and events (10_state.md R32 items 2 to 5)
section
/-! PROOF. One sample step keeps each part of the relation between the state and its history: the cadence (items 4 and 5), the
window of CIRCULAR mode (item 2), the interval of RESET mode (item 3), and the events sent. -/

namespace Sys2Proof.Machine

/-! ## What samples leave unchanged -/

theorem SampleFrame.mode {s t : State} (h : SampleFrame s t) : t.mode = s.mode := by
  obtain ⟨_, _, _, _, _, _, _, rfl⟩ := h
  rfl

theorem SampleFrame.N {s t : State} (h : SampleFrame s t) : t.N = s.N := by
  obtain ⟨_, _, _, _, _, _, _, rfl⟩ := h
  rfl

theorem SampleFrame.P {s t : State} (h : SampleFrame s t) : t.P = s.P := by
  obtain ⟨_, _, _, _, _, _, _, rfl⟩ := h
  rfl

theorem SampleFrame.frameBytes {s t : State} (h : SampleFrame s t) : t.frameBytes = s.frameBytes := by
  obtain ⟨_, _, _, _, _, _, _, rfl⟩ := h
  rfl

theorem SampleFrame.wordMax {s t : State} (h : SampleFrame s t) : t.wordMax = s.wordMax := by
  obtain ⟨_, _, _, _, _, _, _, rfl⟩ := h
  rfl

theorem SampleFrame.pend {s t : State} (h : SampleFrame s t) : t.pend = s.pend := by
  obtain ⟨_, _, _, _, _, _, _, rfl⟩ := h
  rfl

theorem SampleFrame.bufEpoch {s t : State} (h : SampleFrame s t) : t.bufEpoch = s.bufEpoch := by
  obtain ⟨_, _, _, _, _, _, _, rfl⟩ := h
  rfl

/-- The reference reports read only the configuration and the derived constants. -/
theorem SampleFrame.referenceEvents {s t : State} (h : SampleFrame s t) (p : Config.Params) (samples : List Int) :
    referenceEvents p t samples = referenceEvents p s samples := by
  obtain ⟨_, _, _, _, _, _, _, rfl⟩ := h
  rfl

theorem State.windowFold_sampleFrame (s : State) (q : Square) : SampleFrame s (s.windowFold q) := by
  obtain ⟨_, _, _, _, h⟩ := s.windowFold_frame q
  exact ⟨_, _, _, _, _, _, _, h⟩

theorem State.peakFold_sampleFrame (s : State) (x : Int) : SampleFrame s (s.peakFold x) :=
  ⟨_, _, _, _, _, _, _, rfl⟩

/-- In CIRCULAR mode a report leaves the window alone (45_report_scheduler.md R172), so that it is as the fold left it. -/
theorem State.sampleStep_window_of_circular (p : Config.Params) {s : State} (circular : s.mode = .circular) (x : Int) :
    (s.sampleStep p x).buf = (s.windowFold (squareOf x)).buf ∧ (s.sampleStep p x).pos = (s.windowFold (squareOf x)).pos ∧
    (s.sampleStep p x).sum = (s.windowFold (squareOf x)).sum ∧ (s.sampleStep p x).fill = (s.windowFold (squareOf x)).fill := by
  have notReset : ¬ (s.countdown = 0 ∧ s.mode = .reset) := by simp [circular]
  simpa only [if_neg notReset] using s.sampleStep_window p x

/-- The slots are as the fold left them. -/
theorem State.sampleStep_readSlot (p : Config.Params) (s : State) (x : Int) (slot : Nat) :
    (s.sampleStep p x).readSlot slot = (s.windowFold (squareOf x)).readSlot slot := by
  obtain ⟨buf, _⟩ := s.sampleStep_window p x
  rw [State.readSlot, State.readSlot, buf, (s.sampleStep_frame p x).bufEpoch, (s.windowFold_sampleFrame _).bufEpoch]

/-- The samples so far, one by one: what holds before the first and what each sample step keeps holds after any samples. -/
theorem State.sampleSteps_keeps {R : State → List Int → Prop} {s : State} (p : Config.Params) (start : R s [])
    (next : ∀ t before x, R t before → IsSample x → R (t.sampleStep p x) (before ++ [x])) (samples : List Int)
    (inRange : ∀ x ∈ samples, IsSample x) : R (s.sampleSteps p samples) samples := by
  induction samples using List.reverseRecOn with
  | nil => exact start
  | append_singleton before x ih =>
    rw [State.sampleSteps, List.foldl_concat]
    exact next _ _ _ (ih fun y hy => inRange y (by simp [hy])) (inRange x (by simp))

theorem State.sampleSteps_frame (p : Config.Params) (s : State) (samples : List Int) :
    SampleFrame s (s.sampleSteps p samples) :=
  s.foldl_sampleStep_frame p samples

/-! ## The cadence -/

/-- One sample later, either an interval of `P + 1` samples is complete or it has one sample more (45_report_scheduler.md
R181). -/
theorem interval_succ_cases (T P : Nat) :
    (T % (P + 1) = P ∧ (T + 1) % (P + 1) = 0 ∧ T + 1 = (T / (P + 1) + 1) * (P + 1)) ∨
    (T % (P + 1) < P ∧ (T + 1) % (P + 1) = T % (P + 1) + 1 ∧ (T + 1) / (P + 1) = T / (P + 1)) := by
  have parts := Nat.div_add_mod T (P + 1)
  have small := Nat.mod_lt T (Nat.add_one_pos P)
  by_cases last : T % (P + 1) = P
  · have complete : T + 1 = (T / (P + 1) + 1) * (P + 1) := by
      rw [Nat.add_mul, Nat.one_mul, Nat.mul_comm]
      omega
    exact .inl ⟨last, by rw [complete, Nat.mul_mod_left], complete⟩
  · have later : T + 1 = (P + 1) * (T / (P + 1)) + (T % (P + 1) + 1) := by omega
    have within : T % (P + 1) + 1 < P + 1 := by omega
    refine .inr ⟨by omega, ?_, ?_⟩
    · rw [later, Nat.mul_add_mod, Nat.mod_eq_of_lt within]
    · rw [later, Nat.mul_add_div (Nat.add_one_pos P), Nat.div_eq_of_lt within, Nat.add_zero]

/-- R32 items 4 and 5: the countdown and the peak of a state after these samples. -/
structure HoldsCadence (s : State) (samples : List Int) : Prop where
  countdown : s.countdown.toNat = s.P.toNat - samples.length % (s.P.toNat + 1)
  peak : s.peak.toNat = largestMagnitude (recent (samples.length % (s.P.toNat + 1)) samples)

/-- A report is due exactly when the next sample completes an interval. -/
theorem HoldsCadence.due_iff {s : State} {samples : List Int} (h : HoldsCadence s samples) :
    s.countdown.toNat = 0 ↔ samples.length % (s.P.toNat + 1) = s.P.toNat := by
  have := Nat.mod_lt samples.length (Nat.add_one_pos s.P.toNat)
  rw [h.countdown]
  omega

theorem HoldsCadence.sampleStep {s : State} {samples : List Int} (h : HoldsCadence s samples) (p : Config.Params) {x : Int}
    (hx : IsSample x) : HoldsCadence (s.sampleStep p x) (samples ++ [x]) := by
  have period : (s.sampleStep p x).P = s.P := (s.sampleStep_frame p x).P
  rcases interval_succ_cases samples.length s.P.toNat with ⟨last, first, _⟩ | ⟨within, later, _⟩
  · have due := h.due_iff.mpr last
    constructor
    · rw [State.sampleStep_countdown_toNat, if_pos due, period, List.length_append, List.length_singleton, first, Nat.sub_zero]
    · rw [State.sampleStep_peak_toNat p s hx, if_pos due, period, List.length_append, List.length_singleton, first,
        recent_zero, largestMagnitude_nil]
  · have notDue : ¬ s.countdown.toNat = 0 := mt h.due_iff.mp (Nat.ne_of_lt within)
    constructor
    · rw [State.sampleStep_countdown_toNat, if_neg notDue, h.countdown, period, List.length_append, List.length_singleton,
        later]
      omega
    · rw [State.sampleStep_peak_toNat p s hx, if_neg notDue, h.peak, period, List.length_append, List.length_singleton,
        later, recent_succ_concat, largestMagnitude_concat]

/-- The peak of a report is that of the whole interval, the sample that completes it included. -/
theorem HoldsCadence.peakFold_due {s : State} {samples : List Int} (h : HoldsCadence s samples) {x : Int} (hx : IsSample x)
    (last : samples.length % (s.P.toNat + 1) = s.P.toNat) (q : Square) :
    ((s.windowFold q).peakFold x).peak.toNat = largestMagnitude (recent (s.P.toNat + 1) (samples ++ [x])) := by
  have peak := h.peak
  obtain ⟨_, _, _, _, fold⟩ := s.windowFold_frame q
  rw [last] at peak
  rw [State.peakFold_peak_toNat _ hx, recent_succ_concat, largestMagnitude_concat, ← peak, fold]

/-! ## The window of CIRCULAR mode -/

/-- R32 item 2: the window holds the squares of the most recent samples. -/
structure HoldsWindow (s : State) (samples : List Int) : Prop where
  window : 0 < s.N.toNat
  fill : s.fill.toNat = min samples.length s.N.toNat
  pos : s.pos.toNat = samples.length % s.N.toNat
  sum : s.sum.toNat = sumOfSquares (recent s.N.toNat samples)
  slots : ∀ i x, samples[i]? = some x → samples.length ≤ i + s.N.toNat → (s.readSlot (i % s.N.toNat)).toNat = x.natAbs ^ 2

section
variable {s : State} {samples : List Int} {x : Int} (h : HoldsWindow s samples) (circular : s.mode = .circular)
  (inRange : ∀ y ∈ samples, IsSample y) (hx : IsSample x)
include h

/-- The slot at the cursor of a full window holds the square of the oldest recent sample (R156). -/
theorem HoldsWindow.oldest (full : s.N.toNat ≤ samples.length) : (s.readSlot s.pos.toNat).toNat
    = (samples[samples.length - s.N.toNat]'(by have := h.window; omega)).natAbs ^ 2 := by
  have nonempty := h.window
  have cursor : s.pos.toNat = (samples.length - s.N.toNat) % s.N.toNat := by
    rw [h.pos, Nat.mod_eq_sub_mod full]
  rw [cursor]
  exact h.slots _ _ (List.getElem?_eq_getElem (by omega)) (by omega)

include inRange hx

/-- The running sum has room for one more sample (R162). -/
theorem HoldsWindow.fits : s.sum.toNat + (squareOf x).toNat < 2 ^ 176 := by
  have := sumOfSquares_recent_lt inRange s.N.isLt
  have := hx.sq_le
  rw [h.sum, squareOf_toNat hx]
  omega

include circular

/-- The fill count and the sum slide with the samples (R155, R156). -/
theorem HoldsWindow.windowFold_totals : (s.windowFold (squareOf x)).fill.toNat = min (samples.length + 1) s.N.toNat ∧
    (s.windowFold (squareOf x)).sum.toNat = sumOfSquares (recent s.N.toNat (samples ++ [x])) := by
  have fits := h.fits inRange hx
  obtain ⟨n, size⟩ : ∃ n, s.N.toNat = n + 1 := ⟨_, (Nat.succ_pred_eq_of_pos h.window).symm⟩
  have sum := h.sum
  have fill := h.fill
  rw [size, recent_succ_concat, sumOfSquares_concat]
  refine ⟨by rw [State.windowFold_fill circular]; split <;> omega, ?_⟩
  by_cases growing : samples.length < s.N.toNat
  · rw [recent_of_length_le (by omega)] at sum ⊢
    rw [State.windowFold_sum_growth circular (by omega) fits, sum, squareOf_toNat hx]
  · have oldest := h.oldest (by omega)
    simp only [size] at oldest
    rw [size, recent_succ_eq_cons (by omega), sumOfSquares_cons, ← oldest] at sum
    rw [State.windowFold_sum_steady circular (by omega) (by omega) fits, squareOf_toNat hx]
    omega

omit inRange in
/-- Every slot of the window holds the square of its most recent sample (R154). -/
theorem HoldsWindow.windowFold_slots (i : Nat) (y : Int) (sample : (samples ++ [x])[i]? = some y)
    (isRecent : samples.length + 1 ≤ i + s.N.toNat) :
    ((s.windowFold (squareOf x)).readSlot (i % s.N.toNat)).toNat = y.natAbs ^ 2 := by
  have bound : i < samples.length + 1 := by
    simpa using (List.getElem?_eq_some_iff.mp sample).1
  by_cases newest : i = samples.length
  · subst newest
    obtain rfl : x = y := by simpa using sample
    rw [← h.pos, State.windowFold_readSlot_pos circular, squareOf_toNat hx]
  · have other : i % s.N.toNat ≠ s.pos.toNat := by
      rw [h.pos]
      intro same
      have gap : (samples.length - i) % s.N.toNat = 0 := Nat.sub_mod_eq_zero_of_mod_eq same.symm
      rw [Nat.mod_eq_of_lt (by omega)] at gap
      omega
    rw [State.windowFold_readSlot_other circular other]
    exact h.slots i y (by rwa [List.getElem?_append_left (by omega)] at sample) (by omega)

/-- A fold keeps the window (R154 to R157). -/
theorem HoldsWindow.windowFold : HoldsWindow (s.windowFold (squareOf x)) (samples ++ [x]) := by
  obtain ⟨fill, sum⟩ := h.windowFold_totals circular inRange hx
  have size : (s.windowFold (squareOf x)).N = s.N := (s.windowFold_sampleFrame _).N
  constructor
  · rw [size]
    exact h.window
  · rw [size, fill, List.length_append, List.length_singleton]
  · rw [size, State.windowFold_pos circular h.window, h.pos, List.length_append, List.length_singleton, Nat.mod_add_mod]
  · rw [size, sum]
  · intro i y sample isRecent
    rw [size, List.length_append, List.length_singleton] at *
    exact h.windowFold_slots circular hx i y sample isRecent

/-- A sample step keeps the window. -/
theorem HoldsWindow.sampleStep (p : Config.Params) : HoldsWindow (s.sampleStep p x) (samples ++ [x]) := by
  obtain ⟨_, pos, sum, fill⟩ := State.sampleStep_window_of_circular p circular x
  have size : (s.sampleStep p x).N = (s.windowFold (squareOf x)).N :=
    (s.sampleStep_frame p x).N.trans (s.windowFold_sampleFrame _).N.symm
  obtain ⟨window', fill', pos', sum', slots'⟩ := h.windowFold circular inRange hx
  constructor
  · rw [size]; exact window'
  · rw [size, fill]; exact fill'
  · rw [size, pos]; exact pos'
  · rw [size, sum]; exact sum'
  · simpa only [size, State.sampleStep_readSlot] using slots'

end

/-! ## The interval of RESET mode -/

/-- R32 item 3: the sum and the fill count are those of the last `n` samples. -/
structure HoldsInterval (s : State) (n : Nat) (samples : List Int) : Prop where
  fill : s.fill.toNat = n
  pos : s.pos = 0
  sum : s.sum.toNat = sumOfSquares (recent n samples)

section
variable {s : State} {n : Nat} {samples : List Int} {x : Int} (h : HoldsInterval s n samples) (reset : s.mode = .reset)
  (count : n + 1 < 2 ^ 64) (inRange : ∀ y ∈ samples, IsSample y) (hx : IsSample x)
include h reset count inRange hx

/-- A fold adds its sample to the interval (R158). -/
theorem HoldsInterval.windowFold : HoldsInterval (s.windowFold (squareOf x)) (n + 1) (samples ++ [x]) := by
  have room := sumOfSquares_recent_lt inRange (show n < 2 ^ 64 by omega)
  have square := hx.sq_le
  have fits : s.sum.toNat + (squareOf x).toNat < 2 ^ 176 := by
    rw [h.sum, squareOf_toNat hx]
    omega
  obtain ⟨fill, sum⟩ := State.windowFold_reset reset (by rw [h.fill]; exact count) fits
  obtain ⟨_, pos⟩ := State.windowFold_reset_slots reset (squareOf x)
  exact ⟨by rw [fill, h.fill], by rw [pos, h.pos],
    by rw [sum, h.sum, squareOf_toNat hx, recent_succ_concat, sumOfSquares_concat]⟩

/-- A sample step extends the interval, or ends it with a report (R158, R172). -/
theorem HoldsInterval.sampleStep (p : Config.Params) :
    HoldsInterval (s.sampleStep p x) (if s.countdown.toNat = 0 then 0 else n + 1) (samples ++ [x]) := by
  obtain ⟨fill', pos', sum'⟩ := h.windowFold reset count inRange hx
  obtain ⟨_, pos, sum, fill⟩ := s.sampleStep_window p x
  by_cases due : s.countdown = 0
  · rw [if_pos ⟨due, reset⟩] at sum fill
    rw [if_pos (s.countdown_eq_zero_iff.mp due)]
    exact ⟨by rw [fill]; rfl, by rw [pos, pos'], by rw [sum, recent_zero]; rfl⟩
  · rw [if_neg fun both => due both.1] at sum fill
    rw [if_neg (mt s.countdown_eq_zero_iff.mpr due)]
    exact ⟨by rw [fill, fill'], by rw [pos, pos'], by rw [sum, sum']⟩

end

/-! ## The events sent -/

/-- A state whose totals and peak are those of the samples a report averages sends the reference report (R170, R178). -/
theorem SampleFrame.reportEvents {s t : State} (frame : SampleFrame s t) (p : Config.Params) {soFar : List Int}
    (fill : t.fill.toNat = (averaged s soFar).length) (sum : t.sum.toNat = sumOfSquares (averaged s soFar))
    (peak : t.peak.toNat = largestMagnitude (recent (s.P.toNat + 1) soFar)) :
    t.reportEvents p = referenceReport p s soFar := by
  have config : t.rmsEn = s.rmsEn ∧ t.peakEn = s.peakEn ∧ t.wsize = s.wsize := by
    obtain ⟨_, _, _, _, _, _, _, rfl⟩ := frame
    exact ⟨rfl, rfl, rfl⟩
  obtain ⟨rms, pk, wsize⟩ := config
  simp only [State.reportEvents, referenceReport, rms, pk, wsize, ← fill, ← sum, ← peak, BitVec.ofNat_toNat,
    BitVec.setWidth_eq]

/-- The reports of the intervals complete before a sample do not depend on it. -/
theorem flatMap_referenceReport_concat (p : Config.Params) (s : State) (samples : List Int) (x : Int) :
    ((List.range (samples.length / (s.P.toNat + 1))).flatMap fun k =>
      referenceReport p s ((samples ++ [x]).take ((k + 1) * (s.P.toNat + 1)))) = referenceEvents p s samples := by
  refine List.flatMap_congr fun k hk => ?_
  have complete : (k + 1) * (s.P.toNat + 1) ≤ samples.length :=
    (Nat.mul_le_mul_right _ (List.mem_range.mp hk)).trans (Nat.div_mul_le_self _ _)
  rw [List.take_append_of_le_length complete]

/-- A sample within an interval adds no event. -/
theorem referenceEvents_concat_within (p : Config.Params) {s : State} {samples : List Int} (x : Int)
    (within : (samples.length + 1) / (s.P.toNat + 1) = samples.length / (s.P.toNat + 1)) :
    referenceEvents p s (samples ++ [x]) = referenceEvents p s samples := by
  rw [referenceEvents, List.length_append, List.length_singleton, within, flatMap_referenceReport_concat]

/-- The sample that completes an interval adds its report. -/
theorem referenceEvents_concat_last (p : Config.Params) {s : State} {samples : List Int} (x : Int)
    (complete : samples.length + 1 = (samples.length / (s.P.toNat + 1) + 1) * (s.P.toNat + 1)) :
    referenceEvents p s (samples ++ [x]) = referenceEvents p s samples ++ referenceReport p s (samples ++ [x]) := by
  have count : (samples.length + 1) / (s.P.toNat + 1) = samples.length / (s.P.toNat + 1) + 1 := by
    conv_lhs => rw [complete]
    exact Nat.mul_div_cancel _ (Nat.add_one_pos _)
  rw [referenceEvents, List.length_append, List.length_singleton, count, List.range_succ, List.flatMap_append,
    flatMap_referenceReport_concat, List.flatMap_singleton, ← complete, List.take_of_length_le (by simp)]

/-! ## The relation -/

section
variable {p : Config.Params} {before : List Output} {s : State} {samples : List Int}

theorem HoldsHistory.cadence (h : HoldsHistory p before s samples) : HoldsCadence s samples := ⟨h.countdown, h.peak⟩

theorem HoldsHistory.holdsWindow (h : HoldsHistory p before s samples) (circular : s.mode = .circular) :
    HoldsWindow s samples := by
  obtain ⟨window, fill, pos, sum, slots⟩ := h.circular circular
  exact ⟨window, fill, pos, sum, slots⟩

theorem HoldsHistory.holdsInterval (h : HoldsHistory p before s samples) (reset : s.mode = .reset) :
    HoldsInterval s (samples.length % (s.P.toNat + 1)) samples := by
  obtain ⟨fill, pos, sum⟩ := h.reset reset
  exact ⟨fill, pos, sum⟩

/-- The interval so far has room for one more sample in the fill count. -/
theorem HoldsHistory.interval_lt (h : HoldsHistory p before s samples) : samples.length % (s.P.toNat + 1) + 1 < 2 ^ 64 := by
  have := Nat.mod_lt samples.length (Nat.add_one_pos s.P.toNat)
  have := h.period
  omega

/-- The totals a due report takes are those of the samples it averages (43_rolling_window.md R159, R160). -/
theorem HoldsHistory.windowFold_averaged (h : HoldsHistory p before s samples) {x : Int} (hx : IsSample x)
    (last : samples.length % (s.P.toNat + 1) = s.P.toNat) :
    (s.windowFold (squareOf x)).fill.toNat = (averaged s (samples ++ [x])).length ∧
    (s.windowFold (squareOf x)).sum.toNat = sumOfSquares (averaged s (samples ++ [x])) := by
  cases mode : s.mode with
  | circular =>
    obtain ⟨fill, sum⟩ := (h.holdsWindow mode).windowFold_totals mode h.inRange hx
    simp only [averaged, mode, length_recent, List.length_append, List.length_singleton]
    exact ⟨by rw [fill, Nat.min_comm], sum⟩
  | reset =>
    obtain ⟨fill, _, sum⟩ := (h.holdsInterval mode).windowFold mode h.interval_lt h.inRange hx
    have := Nat.mod_le samples.length (s.P.toNat + 1)
    rw [last] at fill sum
    simp only [averaged, mode, length_recent, List.length_append, List.length_singleton]
    exact ⟨by omega, sum⟩

/-- A sample step sends what the reference adds (45_report_scheduler.md R168, R181). -/
theorem HoldsHistory.sampleStep_out (h : HoldsHistory p before s samples) {x : Int} (hx : IsSample x) :
    (s.sampleStep p x).out = before ++ referenceEvents p s (samples ++ [x]) := by
  rw [State.sampleStep_out, h.sent, List.append_assoc]
  rcases interval_succ_cases samples.length s.P.toNat with ⟨last, _, complete⟩ | ⟨within, _, same⟩
  · obtain ⟨fill, sum⟩ := h.windowFold_averaged hx last
    have frame := (s.windowFold_sampleFrame (squareOf x)).trans (State.peakFold_sampleFrame _ x)
    have report := frame.reportEvents p (soFar := samples ++ [x]) fill sum (h.cadence.peakFold_due hx last _)
    rw [if_pos (s.countdown_eq_zero_iff.mpr (h.cadence.due_iff.mpr last)), report, referenceEvents_concat_last p x complete]
  · rw [if_neg (mt s.countdown_eq_zero_iff.mp (mt h.cadence.due_iff.mp (Nat.ne_of_lt within))), List.append_nil,
      referenceEvents_concat_within p x same]

/-- In RESET mode the interval so far is extended, or a report starts a new one (R158, R172). -/
theorem HoldsHistory.sampleStep_interval (h : HoldsHistory p before s samples) {x : Int} (hx : IsSample x)
    (reset : s.mode = .reset) :
    HoldsInterval (s.sampleStep p x) ((samples.length + 1) % (s.P.toNat + 1)) (samples ++ [x]) := by
  have stepped := (h.holdsInterval reset).sampleStep reset h.interval_lt h.inRange hx p
  rcases interval_succ_cases samples.length s.P.toNat with ⟨last, first, _⟩ | ⟨within, later, _⟩
  · rwa [if_pos (h.cadence.due_iff.mpr last), ← first] at stepped
  · rwa [if_neg (mt h.cadence.due_iff.mp (Nat.ne_of_lt within)), ← later] at stepped

/-- One sample step keeps the relation, part by part. -/
theorem HoldsHistory.sampleStep (h : HoldsHistory p before s samples) {x : Int} (hx : IsSample x) :
    HoldsHistory p before (s.sampleStep p x) (samples ++ [x]) := by
  have frame := s.sampleStep_frame p x
  obtain ⟨countdown, peak⟩ := h.cadence.sampleStep p hx
  refine ⟨?_, ?_, countdown, peak, ?_, ?_, ?_⟩
  · simpa [or_imp, forall_and] using ⟨h.inRange, hx⟩
  · rw [frame.P]
    exact h.period
  · intro circular
    rw [frame.mode] at circular
    obtain ⟨window, fill, pos, sum, slots⟩ := (h.holdsWindow circular).sampleStep circular h.inRange hx p
    exact ⟨window, fill, pos, sum, slots⟩
  · intro reset
    rw [frame.mode] at reset
    obtain ⟨fill, pos, sum⟩ := h.sampleStep_interval hx reset
    rw [frame.P, List.length_append, List.length_singleton]
    exact ⟨fill, pos, sum⟩
  · rw [frame.referenceEvents]
    exact h.sampleStep_out hx

end

/-- The cadence at the start of RUNNING (41_config_validator.md R136). -/
theorem StreamStart.cadence {s : State} (start : StreamStart s) : HoldsCadence s [] :=
  ⟨by simp [start.countdown], by simp [start.peak]⟩

/-- The relation at the start of RUNNING, before any sample. -/
theorem StreamStart.holdsHistory {s : State} (start : StreamStart s) (p : Config.Params) (period : s.P.toNat + 1 < 2 ^ 64)
    (window : s.mode = .circular → 0 < s.N.toNat) : HoldsHistory p s.out s [] where
  inRange _ h := absurd h List.not_mem_nil
  period := period
  countdown := start.cadence.countdown
  peak := start.cadence.peak
  circular mode := ⟨window mode, by simp [start.fill], by simp [start.pos], by simp [start.sum], by simp⟩
  reset _ := ⟨by simp [start.fill], start.pos, by simp [start.sum]⟩
  sent := by simp [referenceEvents]

/-- The relation after any samples from the start of RUNNING. -/
theorem StreamStart.sampleSteps_holdsHistory {s : State} (start : StreamStart s) (p : Config.Params)
    (period : s.P.toNat + 1 < 2 ^ 64) (window : s.mode = .circular → 0 < s.N.toNat) {samples : List Int}
    (inRange : ∀ x ∈ samples, IsSample x) : HoldsHistory p s.out (s.sampleSteps p samples) samples :=
  State.sampleSteps_keeps p (start.holdsHistory p period window) (fun _ _ _ h hx => h.sampleStep hx) samples inRange

/-- In RESET mode no sample writes a slot (R158). -/
theorem State.sampleSteps_reset_buf (p : Config.Params) {s : State} (reset : s.mode = .reset) {samples : List Int}
    (inRange : ∀ x ∈ samples, IsSample x) : (s.sampleSteps p samples).buf = s.buf := by
  refine (State.sampleSteps_keeps (R := fun t _ => t.mode = .reset ∧ t.buf = s.buf) p ⟨reset, rfl⟩ ?_ samples inRange).2
  rintro t _ x ⟨mode, buf⟩ _
  obtain ⟨stepped, _⟩ := t.sampleStep_window p x
  obtain ⟨folded, _⟩ := State.windowFold_reset_slots mode (squareOf x)
  exact ⟨(t.sampleStep_frame p x).mode.trans mode, stepped.trans (folded.trans buf)⟩

/-- Settles O40: each part of the relation is kept by its own lemma. -/
theorem sampleStepKeepsTheHistory : Obligations.SampleStepKeepsTheHistory :=
  fun _ _ _ _ _ h hx => h.sampleStep hx

/-- Settles O39: the stream state of R136 is that of the empty history. -/
theorem historyHoldsAtTheStart : Obligations.HistoryHoldsAtTheStart :=
  fun p _ start period window => start.holdsHistory p period window

/-- Settles O36: the RESET part of the relation, and the buffer that no RESET fold touches. -/
theorem resetModeSumIsTheIntervalSoFar : Obligations.ResetModeSumIsTheIntervalSoFar := by
  intro p s samples reset period start inRange
  have frame := s.sampleSteps_frame p samples
  have history := start.sampleSteps_holdsHistory p period (by simp [reset]) inRange
  obtain ⟨fill, pos, sum⟩ := history.reset (frame.mode.trans reset)
  rw [frame.P] at fill sum
  have whole : samples.length % (s.P.toNat + 1) ≤ samples.length := Nat.mod_le _ _
  exact ⟨sum, by rw [fill, length_recent, Nat.min_eq_left whole], pos, State.sampleSteps_reset_buf p reset inRange⟩

/-- Settles O37: the cadence holds at the start of RUNNING and every sample step keeps it. -/
theorem countdownAndPeakFollowTheCadence : Obligations.CountdownAndPeakFollowTheCadence := by
  intro p s samples start inRange
  obtain ⟨countdown, peak⟩ :=
    State.sampleSteps_keeps p start.cadence (fun _ _ _ h hx => h.sampleStep p hx) samples inRange
  rw [(s.sampleSteps_frame p samples).P] at countdown peak
  exact ⟨countdown, peak⟩

end Sys2Proof.Machine
end

-- Proofs: the unwritten slots of the buffer (10_state.md R23, 43_rolling_window.md R161)
section
/-! PROOF. A run does not depend on what the buffer held at its start: a fold evicts a slot only when the window is full, and
then every slot of the window has been written. -/

namespace Sys2Proof.Machine

/-! ## The cursor of the window -/

/-- 10_state.md R32 item 2 on the cursor: below a full window it stands at the first slot not yet written. -/
structure HoldsCursor (s : State) : Prop where
  fill_le : s.fill.toNat ≤ s.N.toNat
  pos_lt : s.pos.toNat < s.N.toNat
  growth : s.fill.toNat < s.N.toNat → s.pos.toNat = s.fill.toNat

section
variable {s : State} (h : HoldsCursor s)
include h

/-- The slots written after a fold are those before it and the slot at the cursor. -/
theorem HoldsCursor.written_of_lt_fill (circular : s.mode = .circular) {q : Square} {slot : Nat}
    (written : slot < (s.windowFold q).fill.toNat) (other : slot ≠ s.pos.toNat) : slot < s.fill.toNat := by
  rw [State.windowFold_fill circular] at written
  split at written
  · next growing =>
    have := h.growth growing
    omega
  · exact written

theorem HoldsCursor.windowFold (circular : s.mode = .circular) (q : Square) : HoldsCursor (s.windowFold q) := by
  have := h.fill_le
  have := h.pos_lt
  have size : (s.windowFold q).N = s.N := (s.windowFold_sampleFrame q).N
  have pos := State.windowFold_pos circular (by omega) q
  have fill := State.windowFold_fill circular q
  refine ⟨?_, ?_, ?_⟩
  · rw [size, fill]
    split <;> omega
  · rw [size, pos]
    exact Nat.mod_lt _ (by omega)
  · rw [size, pos, fill]
    intro growing
    split at growing
    · next room => rw [if_pos room, h.growth room, Nat.mod_eq_of_lt growing]
    · omega

theorem HoldsCursor.sampleStep (circular : s.mode = .circular) (p : Config.Params) (x : Int) :
    HoldsCursor (s.sampleStep p x) := by
  obtain ⟨_, pos, _, fill⟩ := State.sampleStep_window_of_circular p circular x
  have size : (s.sampleStep p x).N = (s.windowFold (squareOf x)).N :=
    (s.sampleStep_frame p x).N.trans (s.windowFold_sampleFrame _).N.symm
  obtain ⟨fill_le, pos_lt, growth⟩ := h.windowFold circular (squareOf x)
  exact ⟨by rwa [fill, size], by rwa [pos, size], by rwa [fill, size, pos]⟩

end

/-! ## Another buffer -/

/-- The state with another content of the buffer, after another count of resets. -/
def State.withBuffer (s : State) (buf : Memory) (epoch : Nat) : State := { s with buf := buf, bufEpoch := epoch }

theorem State.withBuffer_peakFold (s : State) (buf : Memory) (epoch : Nat) (x : Int) :
    (s.withBuffer buf epoch).peakFold x = (s.peakFold x).withBuffer buf epoch := rfl

theorem State.withBuffer_schedule (p : Config.Params) (s : State) (buf : Memory) (epoch : Nat) :
    (s.withBuffer buf epoch).schedule p = (s.schedule p).withBuffer buf epoch := by
  by_cases due : s.countdown = 0
  · rw [State.schedule_zero p due, State.schedule_zero p (s := s.withBuffer buf epoch) due, State.report_eq, State.report_eq]
    rfl
  · rw [State.schedule_pos p due, State.schedule_pos p (s := s.withBuffer buf epoch) due]
    rfl

/-- Two buffers that agree on the slots written so far. In CIRCULAR mode no other slot is read before it is written. -/
def AgreeOnWritten (s : State) (buf : Memory) (epoch : Nat) : Prop :=
  s.mode = .circular → HoldsCursor s ∧
    ∀ slot, slot < s.fill.toNat → (s.withBuffer buf epoch).readSlot slot = s.readSlot slot

section
variable {s : State} {buf : Memory} {epoch : Nat} (h : AgreeOnWritten s buf epoch)
include h

/-- A fold on the other buffer gives the same sum, fill count and cursor: what it evicts has been written. -/
theorem AgreeOnWritten.windowFold (q : Square) :
    ∃ buf', (s.withBuffer buf epoch).windowFold q = (s.windowFold q).withBuffer buf' epoch := by
  cases mode : s.mode with
  | circular =>
    obtain ⟨cursor, agree⟩ := h mode
    rw [State.windowFold_of_circular mode, State.windowFold_of_circular (s := s.withBuffer buf epoch) mode,
      State.windowFoldCircular_eq, State.windowFoldCircular_eq]
    by_cases growing : s.fill < s.N
    · have growing' : (s.withBuffer buf epoch).fill < (s.withBuffer buf epoch).N := growing
      simp only [if_pos growing, if_pos growing']
      exact ⟨_, rfl⟩
    · have full : s.N.toNat ≤ s.fill.toNat := Nat.not_lt.mp growing
      have evicted := agree s.pos.toNat (Nat.lt_of_lt_of_le cursor.pos_lt full)
      rw [show (s.withBuffer buf epoch).pos = s.pos from rfl, evicted]
      exact ⟨_, rfl⟩
  | reset =>
    rw [State.windowFold_of_reset mode, State.windowFold_of_reset (s := s.withBuffer buf epoch) mode]
    exact ⟨_, rfl⟩

/-- A sample step on the other buffer differs in the buffer alone, and the buffers agree again on the slots written. -/
theorem AgreeOnWritten.sampleStep (p : Config.Params) (x : Int) :
    ∃ buf', (s.withBuffer buf epoch).sampleStep p x = (s.sampleStep p x).withBuffer buf' epoch ∧
      AgreeOnWritten (s.sampleStep p x) buf' epoch := by
  obtain ⟨buf', fold⟩ := h.windowFold (squareOf x)
  have step : (s.withBuffer buf epoch).sampleStep p x = (s.sampleStep p x).withBuffer buf' epoch := by
    rw [State.sampleStep, fold, State.withBuffer_peakFold, State.withBuffer_schedule, State.sampleStep]
  refine ⟨buf', step, fun circular => ?_⟩
  rw [(s.sampleStep_frame p x).mode] at circular
  obtain ⟨cursor, agree⟩ := h circular
  refine ⟨cursor.sampleStep circular p x, fun slot written => ?_⟩
  rw [← step, State.sampleStep_readSlot, State.sampleStep_readSlot]
  by_cases newest : slot = s.pos.toNat
  · rw [newest, State.windowFold_readSlot_pos circular]
    exact State.windowFold_readSlot_pos (s := s.withBuffer buf epoch) circular _
  · obtain ⟨_, _, _, fill⟩ := State.sampleStep_window_of_circular p circular x
    rw [fill] at written
    rw [State.windowFold_readSlot_other circular newest,
      State.windowFold_readSlot_other (s := s.withBuffer buf epoch) circular newest,
      agree slot (cursor.written_of_lt_fill circular written newest)]

end

/-- Any samples on the other buffer differ in the buffer alone. -/
theorem AgreeOnWritten.sampleSteps {s : State} {buf : Memory} {epoch : Nat} (h : AgreeOnWritten s buf epoch)
    (p : Config.Params) (samples : List Int) :
    ∃ buf', (s.withBuffer buf epoch).sampleSteps p samples = (s.sampleSteps p samples).withBuffer buf' epoch := by
  unfold State.sampleSteps
  induction samples generalizing s buf with
  | nil => exact ⟨buf, rfl⟩
  | cons x samples ih =>
    obtain ⟨_, step, agree⟩ := h.sampleStep p x
    rw [List.foldl_cons, List.foldl_cons, step]
    exact ih agree

/-- At the start of RUNNING no slot is written, and any two buffers agree. -/
theorem StreamStart.agreeOnWritten {s : State} (start : StreamStart s) (window : s.mode = .circular → 0 < s.N.toNat)
    (buf : Memory) (epoch : Nat) : AgreeOnWritten s buf epoch := by
  intro circular
  have := window circular
  exact ⟨⟨by simp [start.fill], by simpa [start.pos] using this, by simp [start.fill, start.pos]⟩, by simp [start.fill]⟩

/-- Settles O42: the run on the other buffer differs from this one in the buffer alone. -/
theorem unwrittenSlotsAreNeverObserved : Obligations.UnwrittenSlotsAreNeverObserved := by
  intro p s other epoch samples start window
  obtain ⟨buf', run⟩ := (start.agreeOnWritten window other epoch).sampleSteps p samples
  simp only [State.withBuffer] at run
  simp only [run]

end Sys2Proof.Machine
end

-- Proofs: what a transaction can do (10_state.md R18, R21, R29)
section
/-! PROOF. The meanings of the transactions are six: a WRITE, a soft reset, a configuration write refused or stored, an illegal
header, and an answer that changes nothing. Each rule about every transaction is then a matter of six cases. -/

namespace Sys2Proof.Machine

/-! ## The meanings -/

/-- The effects of a configuration write (40_host_registers.md R88 to R94): on the configuration registers alone, and the
reserved bits of FORMAT stay 0 (30_encoding.md R74). -/
def StoresConfig (s t : State) : Prop :=
  ∃ rate channels format windowLo windowHi observeLo observeHi,
    (s.format &&& ~~~formatMask = 0 → format &&& ~~~formatMask = 0) ∧
    t = { s with
      rate := rate, channels := channels, format := format, windowLo := windowLo, windowHi := windowHi
      observeLo := observeLo, observeHi := observeHi }

/-- What a transaction makes of a state. -/
inductive TransactionEffect (i : Instr) (s : State) : State → Prop
  /-- A WRITE (42_sample_decoder.md R139). -/
  | write (payload : List Byte) (isWrite : i = .write payload) : TransactionEffect i s (s.writeTransaction params payload)
  /-- A soft reset (R104). -/
  | softReset (isReset : isSoftReset i = true) (notWrite : isWrite i = false) :
      TransactionEffect i s (s.performReset.respond .ok 0)
  /-- A configuration write in RUNNING (R87). -/
  | locked (isConfig : isConfigWrite i = true) (notWrite : isWrite i = false) (notReset : isSoftReset i = false)
      (legal : isIllegalHeader i = false) (running : s.phase = .running) :
      TransactionEffect i s { s with lockFault := true, out := s.out ++ [.response .configLocked 0] }
  /-- A configuration write in UNCONFIGURED (R88 to R94). -/
  | stored (notWrite : isWrite i = false) (notReset : isSoftReset i = false) (legal : isIllegalHeader i = false)
      (unconfigured : s.phase = .unconfigured) (t : State) (stores : StoresConfig s t) :
      TransactionEffect i s (t.respond .ok 0)
  /-- An illegal header (30_encoding.md R75). -/
  | illegal (header : Word) (isIllegal : i = .illegal header) :
      TransactionEffect i s (s.raiseIllegalFault.raiseError .illegal)
  /-- A read, or a write that is ignored (20_memory.md R55, 40_host_registers.md R105, R126). -/
  | answered (notWrite : isWrite i = false) (notReset : isSoftReset i = false) (notConfig : isConfigWrite i = false)
      (legal : isIllegalHeader i = false) (data : Word) : TransactionEffect i s (s.respond .ok data)

/-- A configuration write is refused or stored, by the phase (R87). -/
theorem TransactionEffect.of_writeConfig {i : Instr} (s : State) {store : State → State} (isConfig : isConfigWrite i = true)
    (notWrite : isWrite i = false) (notReset : isSoftReset i = false) (legal : isIllegalHeader i = false)
    (stores : StoresConfig s (store s)) : TransactionEffect i s (s.writeConfig store) := by
  cases phase : s.phase with
  | running =>
    rw [State.writeConfig_running phase]
    exact .locked isConfig notWrite notReset legal phase
  | unconfigured =>
    rw [State.writeConfig_unconfigured phase]
    exact .stored notWrite notReset legal phase _ stores

/-- The bits of FORMAT that a write keeps are not the reserved ones (30_encoding.md R74). -/
theorem formatMask_reserved (v : Word) : (v &&& formatMask) &&& ~~~formatMask = 0 := by
  rw [BitVec.and_assoc, BitVec.and_not_self]
  exact BitVec.and_zero

/-- A `wr CTRL` is a soft reset or ignored, by its bit 0 (R104). -/
theorem TransactionEffect.of_wrCtrl (v : Word) (s : State) :
    TransactionEffect (.wrCtrl v) s ((if v.getLsbD 0 then s.performReset else s).respond .ok 0) := by
  by_cases reset : v.getLsbD 0 = true
  · rw [if_pos reset]
    exact .softReset reset rfl
  · have ignored : isSoftReset (.wrCtrl v) = false := Bool.eq_false_iff.mpr reset
    rw [if_neg reset]
    exact .answered rfl ignored rfl rfl 0

/-- Every transaction has one of the six meanings. -/
theorem exec_effect {i : Instr} {s t : State} (h : exec i s = .next t) : TransactionEffect i s t := by
  cases i with
  | write payload => cases h; exact .write payload rfl
  | illegal header => cases h; exact .illegal header rfl
  | wrCtrl v => cases h; exact .of_wrCtrl v s
  | wrFormat v =>
    cases h
    exact .of_writeConfig s rfl rfl rfl rfl ⟨_, _, _, _, _, _, _, fun _ => formatMask_reserved v, rfl⟩
  | wrRate v | wrChannels v | wrWindowLo v | wrWindowHi v | wrObserveLo v | wrObserveHi v =>
    cases h
    exact .of_writeConfig s rfl rfl rfl rfl ⟨_, _, _, _, _, _, _, id, rfl⟩
  | wrStatus v | wrResult v | wrPeriodLo v | wrPeriodHi v | wrWsampLo v | wrWsampHi v | wrCountLo v | wrCountHi v
  | wrFillLo v | wrFillHi v | wrPeakLo v | wrPeakHi v | wrPend v | wrPosLo v | wrPosHi v | wrSum0 v | wrSum1 v
  | wrSum2 v | wrSum3 v | wrSum4 v | wrSum5 v | wrReserved5C v | wrReserved78 v | wrReserved7C v | wrReservedHigh off v
  | rdRate | rdChannels | rdFormat | rdWindowLo | rdWindowHi | rdObserveLo | rdObserveHi | rdStatus | rdResult | rdCtrl
  | rdPeriodLo | rdPeriodHi | rdWsampLo | rdWsampHi | rdCountLo | rdCountHi | rdFillLo | rdFillHi | rdPeakLo | rdPeakHi
  | rdPend | rdPosLo | rdPosHi | rdSum0 | rdSum1 | rdSum2 | rdSum3 | rdSum4 | rdSum5 | rdReserved5C | rdReserved78
  | rdReserved7C | rdReservedHigh off =>
    cases h
    exact .answered rfl rfl rfl rfl _

/-! ## What a WRITE can do -/

/-- A decoded payload changes the stream state, and records its result (R139, R150). -/
theorem State.acceptPayload_frame (p : Config.Params) (s : State) (payload : List Byte) :
    (s.acceptPayload p payload).phase = s.phase ∧ (s.acceptPayload p payload).lockFault = s.lockFault ∧
    (s.acceptPayload p payload).illegalFault = s.illegalFault := by
  obtain ⟨_, _, _, _, _, _, _, _, h⟩ := s.decodePayload_frame p payload
  rw [State.acceptPayload, h]
  exact ⟨rfl, rfl, rfl⟩

section
variable {p : Config.Params} {s : State}

theorem State.writeTransaction_running (running : s.phase = .running) (payload : List Byte) :
    s.writeTransaction p payload = s.acceptPayload p payload := by
  rw [State.writeTransaction, running]

theorem State.writeTransaction_valid (unconfigured : s.phase = .unconfigured) (valid : s.validate p = .ok)
    (payload : List Byte) : s.writeTransaction p payload = s.configure.acceptPayload p payload := by
  rw [State.writeTransaction, unconfigured, valid]

/-- A WRITE that does not validate fails with BAD_PARAMETERS or UNSUPPORTED_CONFIG (41_config_validator.md R132). -/
theorem State.writeTransaction_invalid (unconfigured : s.phase = .unconfigured) (invalid : s.validate p ≠ .ok)
    (payload : List Byte) : ∃ code, (code = .badParameters ∨ code = .unsupportedConfig) ∧
      s.writeTransaction p payload = s.failValidation code := by
  have codes : s.validate p = .badParameters ∨ s.validate p = .unsupportedConfig := by
    have failing := mt (State.validate_ok_iff p s).mpr invalid
    unfold State.validate
    cases bad : s.configBad with
    | true => exact .inl rfl
    | false =>
      have exceeds : s.configUnsupported p = true := Bool.of_not_eq_false fun fine => failing ⟨bad, fine⟩
      exact .inr (by simp [exceeds])
  refine ⟨s.validate p, codes, ?_⟩
  rcases codes with code | code <;> rw [State.writeTransaction, unconfigured, code]

end

/-- A failed validation leaves the phase and the sticky flags (R132). -/
theorem State.failValidation_frame (s : State) (code : Code) : (s.failValidation code).phase = s.phase ∧
    (s.failValidation code).lockFault = s.lockFault ∧ (s.failValidation code).illegalFault = s.illegalFault :=
  ⟨rfl, rfl, rfl⟩

/-- A WRITE leaves the sticky flags, and the phase is RUNNING after it exactly if it was before or the configuration validates
(10_state.md R18, R29). -/
theorem State.writeTransaction_frame (p : Config.Params) (s : State) (payload : List Byte) :
    ((s.writeTransaction p payload).phase = .running ↔ s.phase = .running ∨ s.validate p = .ok) ∧
    (s.writeTransaction p payload).lockFault = s.lockFault ∧
    (s.writeTransaction p payload).illegalFault = s.illegalFault := by
  cases phase : s.phase with
  | running =>
    obtain ⟨same, flags⟩ := s.acceptPayload_frame p payload
    rw [State.writeTransaction_running phase, same, phase]
    exact ⟨by simp, flags⟩
  | unconfigured =>
    by_cases valid : s.validate p = .ok
    · obtain ⟨same, flags⟩ := s.configure.acceptPayload_frame p payload
      rw [State.writeTransaction_valid phase valid, same]
      exact ⟨by simp [State.configure, valid], flags⟩
    · obtain ⟨code, _, failed⟩ := State.writeTransaction_invalid phase valid payload
      obtain ⟨same, flags⟩ := s.failValidation_frame code
      rw [failed, same, phase]
      exact ⟨by simp [valid], flags⟩

/-! ## The rules -/

/-- Two states that differ in the configuration registers, the sticky flags and the history at most. -/
def SameButRegisters (s t : State) : Prop :=
  ∃ rate channels format windowLo windowHi observeLo observeHi lockFault illegalFault out, t = { s with
    rate := rate, channels := channels, format := format, windowLo := windowLo, windowHi := windowHi
    observeLo := observeLo, observeHi := observeHi, lockFault := lockFault, illegalFault := illegalFault, out := out }

/-- The registers and the flags are neither stream state nor derived constants (10_state.md R19 to R30). -/
theorem SameButRegisters.sameStream {s t : State} (h : SameButRegisters s t) :
    SameStream s t ∧ SameDerived s t ∧ t.phase = s.phase ∧ t.lastCode = s.lastCode ∧ t.result = s.result := by
  obtain ⟨_, _, _, _, _, _, _, _, _, _, rfl⟩ := h
  exact ⟨⟨rfl, rfl, fun _ => rfl, rfl, rfl, rfl, rfl, rfl⟩, ⟨rfl, rfl, rfl, rfl, rfl, rfl⟩, rfl, rfl, rfl⟩

/-- Of the six meanings, only a WRITE and a soft reset reach beyond the registers and the flags. -/
theorem TransactionEffect.sameButRegisters {i : Instr} {s t : State} (h : TransactionEffect i s t)
    (noWrite : isWrite i = false) (noReset : isSoftReset i = false) : SameButRegisters s t := by
  cases h with
  | write payload is => rw [is] at noWrite; exact absurd noWrite (by simp [isWrite])
  | softReset is _ => exact absurd is (by simp [noReset])
  | stored _ _ _ _ _ stores =>
    obtain ⟨_, _, _, _, _, _, _, _, rfl⟩ := stores
    exact ⟨_, _, _, _, _, _, _, _, _, _, rfl⟩
  | locked | illegal | answered => exact ⟨_, _, _, _, _, _, _, _, _, _, rfl⟩

/-- Settles O48: a transaction that is no WRITE and no soft reset changes registers and flags at most. -/
theorem onlyWritesAndResetsChangeTheStream : Obligations.OnlyWritesAndResetsChangeTheStream :=
  fun _ _ _ run noWrite noReset => ((exec_effect run).sameButRegisters noWrite noReset).sameStream

/-- The phase after a transaction, by its meaning (10_state.md R18). -/
theorem TransactionEffect.running_iff {i : Instr} {s t : State} (h : TransactionEffect i s t) : t.phase = .running ↔
    isSoftReset i = false ∧ (s.phase = .running ∨ isWrite i = true ∧ s.validate params = .ok) := by
  cases h with
  | write payload is =>
    subst is
    rw [(s.writeTransaction_frame params payload).1]
    simp [isSoftReset, isWrite]
  | softReset is _ => simp [is, State.reset]
  | stored noWrite noReset _ _ _ stores =>
    obtain ⟨_, _, _, _, _, _, _, _, rfl⟩ := stores
    simp [noWrite, noReset]
  | illegal header is =>
    subst is
    simp [isSoftReset, isWrite]
  | locked _ noWrite noReset | answered noWrite noReset => simp [noWrite, noReset]

/-- Settles O50: the phase after a transaction is RUNNING exactly as R18 says; the rest is that there are two phases. -/
theorem phaseChangesOnlyByValidationAndReset : Obligations.PhaseChangesOnlyByValidationAndReset := by
  intro i s t run
  have running := (exec_effect run).running_iff
  have other (phase : Phase) : phase = .unconfigured ↔ ¬ phase = .running := by cases phase <;> simp
  refine ⟨fun phase => ?_, fun phase => ?_⟩
  · have notBoth : isWrite i = true → isSoftReset i = false := by cases i <;> simp [isWrite, isSoftReset]
    rw [running, phase]
    simp only [reduceCtorEq, false_or]
    exact ⟨And.right, fun good => ⟨notBoth good.1, good⟩⟩
  · rw [other, running, phase]
    simp

/-- Settles O51: of the six meanings, a refused configuration write sets one flag and an illegal header the other. -/
theorem stickyFlagsAreClearedOnlyByReset : Obligations.StickyFlagsAreClearedOnlyByReset := by
  intro i s t run noReset
  cases exec_effect run with
  | write payload is =>
    subst is
    obtain ⟨_, lock, illegal⟩ := s.writeTransaction_frame params payload
    simp [lock, illegal, isConfigWrite, isIllegalHeader]
  | softReset is _ => exact absurd is (by simp [noReset])
  | locked isConfig _ _ legal running => simp [isConfig, legal, running]
  | stored _ _ legal unconfigured _ stores =>
    obtain ⟨_, _, _, _, _, _, _, _, rfl⟩ := stores
    simp [legal, unconfigured]
  | illegal header is =>
    subst is
    simp [isConfigWrite, isIllegalHeader, State.raiseIllegalFault]
  | answered _ _ notConfig legal => simp [notConfig, legal]

end Sys2Proof.Machine
end

-- Proofs: the invariant of RUNNING (10_state.md R32)
section
/-! PROOF. What RUNNING adds to the invariant is kept by every sample step, so by every byte of a payload. -/

namespace Sys2Proof.Machine

/-! ## The squares the buffer holds -/

/-- The sum of the squares in the slots written. -/
def Memory.total (m : Memory) : Nat := (m.map fun e => e.2.toNat).sum

@[simp] theorem Memory.total_nil : Memory.total [] = 0 := rfl

@[simp] theorem Memory.total_cons (e : Nat × Square) (m : Memory) : Memory.total (e :: m) = e.2.toNat + Memory.total m := rfl

theorem Memory.total_concat (m : Memory) (e : Nat × Square) : Memory.total (m ++ [e]) = Memory.total m + e.2.toNat := by
  simp [Memory.total]

theorem Memory.total_le {m : Memory} {bound : Nat} (h : ∀ e ∈ m, e.2.toNat ≤ bound) : m.total ≤ m.length * bound := by
  have each (n : Nat) (hn : n ∈ m.map fun e => e.2.toNat) : n ≤ bound := by
    obtain ⟨e, he, rfl⟩ := List.mem_map.mp hn
    exact h e he
  simpa [Memory.total] using List.sum_le_card_nsmul _ _ each

/-- A write above every slot written adds its slot. -/
theorem Memory.write_above {m : Memory} {slot : Nat} (h : ∀ e ∈ m, e.1 < slot) (q : Square) :
    m.write slot q = m ++ [(slot, q)] := by
  induction m with
  | nil => rfl
  | cons e m ih =>
    obtain ⟨j, r⟩ := e
    obtain ⟨below, rest⟩ := List.forall_mem_cons.mp h
    rw [Memory.write, if_neg (Nat.not_lt.mpr (Nat.le_of_lt below)), if_neg (Nat.ne_of_gt below), ih rest, List.cons_append]

/-- A slot written holds a square. -/
theorem Memory.exists_find? {m : Memory} {slot : Nat} (h : slot ∈ m.map Prod.fst) : ∃ r, m.find? slot = some r := by
  induction m with
  | nil => exact absurd h List.not_mem_nil
  | cons e m ih =>
    obtain ⟨j, r⟩ := e
    rw [Memory.find?_cons]
    by_cases first : j = slot
    · exact ⟨r, if_pos first⟩
    · rw [if_neg first]
      exact ih ((List.mem_cons.mp h).resolve_left (Ne.symm first))

/-- What a slot holds is listed. -/
theorem Memory.mem_of_find? {m : Memory} {slot : Nat} {r : Square} (h : m.find? slot = some r) : (slot, r) ∈ m := by
  induction m with
  | nil => simp at h
  | cons e m ih =>
    obtain ⟨j, q⟩ := e
    rw [Memory.find?_cons] at h
    split at h
    · next first => simp_all
    · exact List.mem_cons_of_mem _ (ih h)

/-- A write to a slot written before replaces its square and no other. -/
theorem Memory.write_present {m : Memory} (canonical : m.wf) {slot : Nat} {r : Square} (h : m.find? slot = some r)
    (q : Square) : (m.write slot q).map Prod.fst = m.map Prod.fst ∧ (m.write slot q).total + r.toNat = m.total + q.toNat := by
  induction m with
  | nil => simp at h
  | cons e m ih =>
    obtain ⟨j, held⟩ := e
    obtain ⟨rising, rest⟩ := List.pairwise_cons.mp canonical
    rw [Memory.find?_cons] at h
    by_cases first : j = slot
    · rw [if_pos first] at h
      obtain rfl : held = r := Option.some.inj h
      rw [Memory.write, if_neg (by omega), if_pos first.symm, first]
      exact ⟨rfl, by simp only [Memory.total_cons]; omega⟩
    · rw [if_neg first] at h
      have above : j < slot := rising _ (Memory.mem_of_find? h)
      obtain ⟨slots, total⟩ := ih rest h
      rw [Memory.write, if_neg (by omega), if_neg (by omega)]
      exact ⟨by rw [List.map_cons, slots, List.map_cons], by simp only [Memory.total_cons]; omega⟩

/-- A buffer whose first slots are written is in canonical form. -/
theorem Memory.wf_of_slots {m : Memory} {n : Nat} (h : m.map Prod.fst = List.range n) : m.wf := by
  have rising := List.pairwise_lt_range (n := n)
  rw [← h, List.pairwise_map] at rising
  exact rising

/-! ## The window of CIRCULAR mode -/

theorem CircularInv.cursor {s : State} (h : CircularInv s) : HoldsCursor s :=
  ⟨h.fill_le, h.pos_lt, fun growing => congrArg BitVec.toNat (h.growth growing)⟩

theorem CircularInv.total {s : State} (h : CircularInv s) : s.sum.toNat = s.buf.total := h.sum

/-- The sum is at most that of full-scale squares in every slot written (43_rolling_window.md R162). -/
theorem CircularInv.sum_le {s : State} (h : CircularInv s) : s.sum.toNat ≤ s.fill.toNat * s.wordMax.toNat ^ 2 := by
  have written : s.buf.length = s.fill.toNat := by
    rw [← List.length_map (f := Prod.fst), h.slots, List.length_range]
  rw [h.total, ← written]
  exact Memory.total_le h.squares

/-- A sum of so many full-scale squares has room for one more. -/
theorem sum_fits {sum fill magnitude wordMax : Nat} (bound : sum ≤ fill * wordMax ^ 2) (count : fill < 2 ^ 64)
    (word : wordMax ≤ 2 ^ 55) (h : magnitude ≤ wordMax) : sum + magnitude ^ 2 < 2 ^ 176 := by
  have full : wordMax ^ 2 ≤ 2 ^ 110 := Nat.pow_le_pow_left word 2
  have square : magnitude ^ 2 ≤ wordMax ^ 2 := Nat.pow_le_pow_left h 2
  have most : fill * wordMax ^ 2 ≤ 2 ^ 64 * 2 ^ 110 := Nat.mul_le_mul (Nat.le_of_lt count) full
  omega

/-- A sample of a word size is one some format can give (42_sample_decoder.md R147). -/
theorem isSample_of_le {x : Int} {wordMax : Nat} (magnitude : x.natAbs ≤ wordMax) (word : wordMax ≤ 2 ^ 55) : IsSample x :=
  magnitude.trans word

section
variable {s : State} {x : Int} (h : CircularInv s) (circular : s.mode = .circular)
  (magnitude : x.natAbs ≤ s.wordMax.toNat) (word : s.wordMax.toNat ≤ 2 ^ 55)
include h

/-- In the steady phase the slot at the cursor has been written (R161). -/
theorem CircularInv.evicted (full : s.N.toNat ≤ s.fill.toNat) : ∃ r, s.buf.find? s.pos.toNat = some r := by
  have := h.pos_lt
  exact Memory.exists_find? (by rw [h.slots, List.mem_range]; omega)

include circular

/-- In the growth phase the fold writes the first slot not yet written. -/
theorem CircularInv.windowFold_buf_growth (growing : s.fill.toNat < s.N.toNat) (q : Square) :
    (s.windowFold q).buf = s.buf ++ [(s.fill.toNat, q)] := by
  have below (e : Nat × Square) (he : e ∈ s.buf) : e.1 < s.fill.toNat := by
    have := List.mem_map_of_mem (f := Prod.fst) he
    rwa [h.slots, List.mem_range] at this
  rw [State.windowFold_buf circular, h.cursor.growth growing, Memory.write_above below]

/-- The first slots are written after a fold too (R155, R156). -/
theorem CircularInv.windowFold_slots (q : Square) :
    (s.windowFold q).buf.map Prod.fst = List.range (s.windowFold q).fill.toNat := by
  rw [State.windowFold_fill circular]
  by_cases growing : s.fill.toNat < s.N.toNat
  · rw [if_pos growing, h.windowFold_buf_growth circular growing, List.map_append, h.slots, List.range_succ]
    rfl
  · obtain ⟨r, held⟩ := h.evicted (by omega)
    rw [if_neg growing, State.windowFold_buf circular, (Memory.write_present (Memory.wf_of_slots h.slots) held q).1, h.slots]

include magnitude word

/-- The sum is that of the squares held after a fold too (R154). -/
theorem CircularInv.windowFold_sum :
    (s.windowFold (squareOf x)).sum.toNat = (s.windowFold (squareOf x)).buf.total := by
  have fits : s.sum.toNat + (squareOf x).toNat < 2 ^ 176 := by
    rw [squareOf_toNat (isSample_of_le magnitude word)]
    exact sum_fits h.sum_le s.fill.isLt word magnitude
  by_cases growing : s.fill.toNat < s.N.toNat
  · rw [State.windowFold_sum_growth circular growing fits, h.windowFold_buf_growth circular growing, Memory.total_concat,
      h.total]
  · obtain ⟨r, held⟩ := h.evicted (by omega)
    obtain ⟨_, total⟩ := Memory.write_present (Memory.wf_of_slots h.slots) held (squareOf x)
    have read := State.readSlot_of_find? held
    have most : r.toNat ≤ s.buf.total :=
      List.single_le_sum (by simp) _ (List.mem_map_of_mem (Memory.mem_of_find? held))
    rw [State.windowFold_sum_steady circular (by omega) (by rw [read, h.total]; exact most) fits, read,
      State.windowFold_buf circular, h.total]
    omega

/-- A fold keeps the invariant of the window. -/
theorem CircularInv.windowFold : CircularInv (s.windowFold (squareOf x)) := by
  obtain ⟨fill_le, pos_lt, growth⟩ := h.cursor.windowFold circular (squareOf x)
  refine ⟨fill_le, pos_lt, fun growing => BitVec.eq_of_toNat_eq (growth growing), h.windowFold_slots circular _, ?_,
    h.windowFold_sum circular magnitude word⟩
  intro e he
  rw [(s.windowFold_sampleFrame _).wordMax]
  rw [State.windowFold_buf circular] at he
  rcases Memory.mem_write_fst _ _ _ e he with rfl | before
  · rw [squareOf_toNat (isSample_of_le magnitude word)]
    exact Nat.pow_le_pow_left magnitude 2
  · exact h.squares e before

/-- A sample step keeps the invariant of the window. -/
theorem CircularInv.sampleStep (p : Config.Params) : CircularInv (s.sampleStep p x) := by
  obtain ⟨buf, pos, sum, fill⟩ := State.sampleStep_window_of_circular p circular x
  have folded := s.windowFold_sampleFrame (squareOf x)
  have stepped := s.sampleStep_frame p x
  have size := stepped.N.trans folded.N.symm
  have scale := stepped.wordMax.trans folded.wordMax.symm
  obtain ⟨fill_le, pos_lt, growth, slots, squares, total⟩ := h.windowFold circular magnitude word
  exact ⟨by rwa [fill, size], by rwa [pos, size], by rwa [fill, size, pos], by rwa [buf, fill], by rwa [buf, scale],
    by rwa [sum, buf]⟩

end

/-! ## The interval of RESET mode -/

/-- A sample step keeps the invariant of the interval: the fill count mirrors the countdown (R158, R168, R172). -/
theorem ResetInv.sampleStep {s : State} {x : Int} (h : ResetInv s) (reset : s.mode = .reset)
    (magnitude : x.natAbs ≤ s.wordMax.toNat) (word : s.wordMax.toNat ≤ 2 ^ 55) (p : Config.Params) :
    ResetInv (s.sampleStep p x) := by
  have mirror := h.fill
  have frame := s.sampleStep_frame p x
  obtain ⟨buf, pos, sum, fill⟩ := s.sampleStep_window p x
  obtain ⟨buf', pos'⟩ := State.windowFold_reset_slots reset (squareOf x)
  have countdown := s.sampleStep_countdown_toNat p x
  have slots : (s.sampleStep p x).pos = 0 ∧ (s.sampleStep p x).buf = [] :=
    ⟨pos.trans (pos'.trans h.pos), buf.trans (buf'.trans h.buf)⟩
  by_cases due : s.countdown = 0
  · rw [if_pos ⟨due, reset⟩] at sum fill
    rw [if_pos (s.countdown_eq_zero_iff.mp due)] at countdown
    exact ⟨by rw [fill, countdown, frame.P]; simp, slots.1, slots.2, by rw [sum]; simp⟩
  · have running := mt s.countdown_eq_zero_iff.mpr due
    have bound := s.P.isLt
    have square := squareOf_toNat (isSample_of_le magnitude word)
    have fits := sum_fits h.sum s.fill.isLt word magnitude
    obtain ⟨fill', sum'⟩ := State.windowFold_reset reset (q := squareOf x) (by omega) (by rwa [square])
    rw [if_neg fun both => due both.1] at sum fill
    rw [if_neg running] at countdown
    refine ⟨by rw [fill, fill', countdown, frame.P]; omega, slots.1, slots.2, ?_⟩
    rw [sum, sum', square, fill, fill', frame.wordMax, Nat.add_mul, Nat.one_mul]
    exact Nat.add_le_add h.sum (Nat.pow_le_pow_left magnitude 2)

/-! ## The configuration -/

section
variable {p : Config.Params} {s : State}

theorem Configured.of_sampleFrame {t : State} (h : Configured p s) (frame : SampleFrame s t) : Configured p t := by
  obtain ⟨_, _, _, _, _, _, _, rfl⟩ := frame
  exact ⟨h.valid, h.mode, h.wordBytes, h.frameBytes_pos, h.frameBytes, h.wordMax, h.period, h.slots⟩

/-- Full scale is at most that of 56-bit words (41_config_validator.md R129). -/
theorem Configured.wordMax_le (h : Configured p s) : s.wordMax.toNat ≤ 2 ^ 55 := by
  obtain ⟨_, _, _, _, size, _⟩ := State.valid_facts h.valid
  rw [h.wordMax]
  exact Nat.pow_le_pow_right (by norm_num) (by omega)

/-- A word of `w` bits gives a sample of magnitude at most `2^(w−1)` (42_sample_decoder.md R145 to R147). -/
theorem natAbs_decodeWord_le {w : Nat} (le signed : Bool) {word : List Byte} (size : 8 * word.length = w) (nonempty : 0 < w) :
    (decodeWord w le signed word).natAbs ≤ 2 ^ (w - 1) := by
  have raw : rawOfWord le word < 2 ^ w := by
    rw [rawOfWord, ← size]
    split
    · exact natLE_lt word
    · exact natBE_lt word
  have half : 2 ^ w = 2 * 2 ^ (w - 1) := by rw [← Nat.pow_succ', Nat.succ_eq_add_one, Nat.sub_add_cancel nonempty]
  have halfInt : (2 : Int) ^ w = 2 * 2 ^ (w - 1) := by exact_mod_cast half
  have cast : ((2 ^ (w - 1) : Nat) : Int) = 2 ^ (w - 1) := by norm_cast
  rw [decodeWord, sampleOfRaw]
  split
  · split <;> omega
  · omega

/-- The samples of a frame lie in the range of its words. -/
theorem Configured.natAbs_frameSamples_le (h : Configured p s) {frame : List Byte} {x : Int}
    (hx : x ∈ s.frameSamples frame) : x.natAbs ≤ s.wordMax.toNat := by
  obtain ⟨_, _, whole, least, _⟩ := State.valid_facts h.valid
  obtain ⟨c, _, rfl⟩ := List.mem_map.mp hx
  rw [h.wordMax]
  exact natAbs_decodeWord_le _ _ (by rw [frameWord_length, h.wordBytes]; omega) (by omega)

end

/-! ## What RUNNING adds -/

/-- The invariant of a state in RUNNING but for LASTCODE, which a first WRITE records only after its payload. -/
structure StreamInv (p : Config.Params) (s : State) : Prop where
  configured : Configured p s
  pend : s.pend.length < s.frameBytes.toNat
  countdown : s.countdown.toNat ≤ s.P.toNat
  peak : s.peak.toNat ≤ s.wordMax.toNat
  circular : s.mode = .circular → CircularInv s
  reset : s.mode = .reset → ResetInv s

theorem runningInv_iff {p : Config.Params} {s : State} : RunningInv p s ↔ StreamInv p s ∧ s.lastCode = .ok :=
  ⟨fun ⟨configured, pend, countdown, peak, lastCode, circular, reset⟩ =>
    ⟨⟨configured, pend, countdown, peak, circular, reset⟩, lastCode⟩,
  fun ⟨⟨configured, pend, countdown, peak, circular, reset⟩, lastCode⟩ =>
    ⟨configured, pend, countdown, peak, lastCode, circular, reset⟩⟩

section
variable {p : Config.Params} {s : State} (h : StreamInv p s)
include h

theorem StreamInv.buf_wf : s.buf.wf := by
  cases mode : s.mode with
  | circular => exact Memory.wf_of_slots (h.circular mode).slots
  | reset =>
    rw [(h.reset mode).buf]
    exact List.Pairwise.nil

/-- The sum is at most that of so many full-scale squares as the fill count says (43_rolling_window.md R162). -/
theorem StreamInv.sum_le : s.sum.toNat ≤ s.fill.toNat * 2 ^ 110 := by
  have bound : s.sum.toNat ≤ s.fill.toNat * s.wordMax.toNat ^ 2 := by
    cases mode : s.mode with
    | circular => exact (h.circular mode).sum_le
    | reset => exact (h.reset mode).sum
  exact bound.trans (Nat.mul_le_mul_left _ (Nat.pow_le_pow_left h.configured.wordMax_le 2))

/-- The fill count is at most that of a full window or a full interval. -/
theorem StreamInv.fill_le : s.fill.toNat ≤ max s.N.toNat (s.P.toNat + 1) := by
  cases mode : s.mode with
  | circular => exact (h.circular mode).fill_le.trans (Nat.le_max_left _ _)
  | reset =>
    have := (h.reset mode).fill
    omega

theorem StreamInv.sampleStep {x : Int} (magnitude : x.natAbs ≤ s.wordMax.toNat) : StreamInv p (s.sampleStep p x) := by
  have word := h.configured.wordMax_le
  have frame := s.sampleStep_frame p x
  have range := h.countdown
  have peak := h.peak
  refine ⟨h.configured.of_sampleFrame frame, ?_, ?_, ?_, ?_, ?_⟩
  · rw [frame.pend, frame.frameBytes]
    exact h.pend
  · rw [State.sampleStep_countdown_toNat, frame.P]
    split <;> omega
  · rw [State.sampleStep_peak_toNat p s (isSample_of_le magnitude word), frame.wordMax]
    split <;> omega
  · intro circular
    rw [frame.mode] at circular
    exact (h.circular circular).sampleStep circular magnitude word p
  · intro reset
    rw [frame.mode] at reset
    exact (h.reset reset).sampleStep reset magnitude word p

/-- The pending bytes are fewer than a frame (30_encoding.md R65). -/
theorem StreamInv.withPend {pend : List Byte} (short : pend.length < s.frameBytes.toNat) :
    StreamInv p { s with pend := pend } where
  configured := ⟨h.configured.valid, h.configured.mode, h.configured.wordBytes, h.configured.frameBytes_pos,
    h.configured.frameBytes, h.configured.wordMax, h.configured.period, h.configured.slots⟩
  pend := short
  countdown := h.countdown
  peak := h.peak
  circular mode := by
    obtain ⟨fill_le, pos_lt, growth, slots, squares, sum⟩ := h.circular mode
    exact ⟨fill_le, pos_lt, growth, slots, squares, sum⟩
  reset mode := by
    obtain ⟨fill, pos, buf, sum⟩ := h.reset mode
    exact ⟨fill, pos, buf, sum⟩

end

section
variable {p : Config.Params} {s : State}

theorem StreamInv.sampleSteps {samples : List Int} (h : StreamInv p s)
    (magnitude : ∀ x ∈ samples, x.natAbs ≤ s.wordMax.toNat) :
    StreamInv p (samples.foldl (State.sampleStep p) s) := by
  induction samples generalizing s with
  | nil => exact h
  | cons x samples ih =>
    obtain ⟨first, rest⟩ := List.forall_mem_cons.mp magnitude
    exact ih (h.sampleStep first) (by rwa [(s.sampleStep_frame p x).wordMax])

theorem StreamInv.byteStep (h : StreamInv p s) (b : Byte) : StreamInv p (s.byteStep p b) := by
  have short := h.pend
  by_cases complete : (s.pend ++ [b]).length = s.frameBytes.toNat
  · have emptied := h.withPend (pend := []) h.configured.frameBytes_pos
    rw [State.byteStep_completes p complete]
    exact emptied.sampleSteps fun x hx => emptied.configured.natAbs_frameSamples_le hx
  · rw [State.byteStep_waits p complete]
    refine h.withPend ?_
    rw [List.length_append, List.length_singleton] at complete ⊢
    omega

theorem StreamInv.decodePayload (h : StreamInv p s) (payload : List Byte) : StreamInv p (s.decodePayload p payload) := by
  unfold State.decodePayload
  induction payload generalizing s with
  | nil => exact h
  | cons b payload ih => exact ih (h.byteStep b)

end

end Sys2Proof.Machine
end

-- Proofs: the invariant of the machine (10_state.md R32)
section
/-! PROOF. The invariant holds at reset and every step keeps it: a WRITE by the bytes of its payload, every other transaction
because it does not touch what the invariant speaks of. -/

namespace Sys2Proof.Machine

/-! ## What the invariant does not speak of -/

/-- Two states that differ at most in the records of the last transactions, the channels and the count of resets. -/
def SameButRecords (s t : State) : Prop :=
  ∃ lastCode lockFault illegalFault result input out bufEpoch, t = { s with
    lastCode := lastCode, lockFault := lockFault, illegalFault := illegalFault, result := result, input := input
    out := out, bufEpoch := bufEpoch }

section
variable {p : Config.Params} {s t : State} (same : SameButRecords s t)
include same

theorem StreamAtReset.of_sameButRecords (h : StreamAtReset s) : StreamAtReset t := by
  obtain ⟨_, _, _, _, _, _, _, rfl⟩ := same
  obtain ⟨mode, frameBytes, wordBytes, wordMax, N, P, pend, buf, pos, fill, sum, peak, countdown⟩ := h
  exact ⟨mode, frameBytes, wordBytes, wordMax, N, P, pend, buf, pos, fill, sum, peak, countdown⟩

theorem Configured.of_sameButRecords (h : Configured p s) : Configured p t := by
  obtain ⟨_, _, _, _, _, _, _, rfl⟩ := same
  exact ⟨h.valid, h.mode, h.wordBytes, h.frameBytes_pos, h.frameBytes, h.wordMax, h.period, h.slots⟩

theorem CircularInv.of_sameButRecords (h : CircularInv s) : CircularInv t := by
  obtain ⟨_, _, _, _, _, _, _, rfl⟩ := same
  exact ⟨h.fill_le, h.pos_lt, h.growth, h.slots, h.squares, h.sum⟩

theorem ResetInv.of_sameButRecords (h : ResetInv s) : ResetInv t := by
  obtain ⟨_, _, _, _, _, _, _, rfl⟩ := same
  exact ⟨h.fill, h.pos, h.buf, h.sum⟩

theorem StreamInv.of_sameButRecords (h : StreamInv p s) : StreamInv p t := by
  have configured := h.configured.of_sameButRecords same
  have circular (mode : s.mode = .circular) := (h.circular mode).of_sameButRecords same
  have reset (mode : s.mode = .reset) := (h.reset mode).of_sameButRecords same
  obtain ⟨_, _, _, _, _, _, _, rfl⟩ := same
  exact ⟨configured, h.pend, h.countdown, h.peak, circular, reset⟩

/-- Records with a LASTCODE of a WRITE, OK in RUNNING, keep the invariant (40_host_registers.md R102). -/
theorem Inv.of_sameButRecords (h : Inv p s) (lastCode : t.lastCode ≠ .configLocked ∧ t.lastCode ≠ .illegal)
    (running : s.phase = .running → t.lastCode = .ok) : Inv p t := by
  have atReset (phase : s.phase = .unconfigured) := (h.unconfigured phase).of_sameButRecords same
  have inRunning (phase : s.phase = .running) : RunningInv p t :=
    runningInv_iff.mpr ⟨(runningInv_iff.mp (h.running phase)).1.of_sameButRecords same, running phase⟩
  obtain ⟨_, _, _, _, _, _, _, rfl⟩ := same
  exact ⟨h.reserved, lastCode, h.buf, atReset, inRunning⟩

end

/-- In RUNNING the invariant is that of the stream, the reserved bits, and LASTCODE. -/
theorem StreamInv.inv {p : Config.Params} {s : State} (h : StreamInv p s) (running : s.phase = .running)
    (reserved : s.format &&& ~~~formatMask = 0) (lastCode : s.lastCode = .ok) : Inv p s where
  reserved := reserved
  lastCode := by simp [lastCode]
  buf := h.buf_wf
  unconfigured phase := by simp [phase] at running
  running _ := runningInv_iff.mpr ⟨h, lastCode⟩

/-! ## Reset and the first WRITE -/

theorem inv_reset (p : Config.Params) : Inv p State.reset where
  reserved := by decide
  lastCode := by decide
  buf := State.reset_buf_wf
  unconfigured _ := ⟨rfl, rfl, rfl, rfl, rfl, rfl, rfl, rfl, rfl, rfl, rfl, rfl, rfl⟩
  running phase := absurd phase (by decide)

/-- Every reset leaves the invariant, whatever the state was (70_reset_and_hazards.md R203). -/
theorem State.performReset_inv (p : Config.Params) (s : State) : Inv p s.performReset :=
  (inv_reset p).of_sameButRecords ⟨_, _, _, _, _, _, _, rfl⟩ (by simp [State.reset]) fun _ => rfl

theorem State.configure_N_of_circular {s : State} (circular : s.selectedMode = .circular) :
    s.configure.N = BitVec.ofNat 64 s.windowSlots := by
  simp [State.configure, circular]

theorem State.configure_N_of_reset {s : State} (reset : s.selectedMode = .reset) : s.configure.N = 0 := by
  simp [State.configure, reset]

section
variable {p : Config.Params} {s : State} (limits : LegalParams p) (valid : s.validate p = .ok)
include limits valid

/-- A configuration that validates gives the derived constants of R134 and R135: each fits its register. -/
theorem State.configure_configured : Configured p s.configure := by
  obtain ⟨channels, _, whole, least, most, interval, intervalMax, _, window⟩ := State.valid_facts valid
  have capacity := limits.maxWindowSlots_le
  refine ⟨valid, rfl, ?_, ?_, frameBytesOf_fits, ?_, ?_, ?_⟩
  · exact Nat.mod_eq_of_lt (show s.wsize / 8 < 2 ^ 3 by omega)
  · exact frameBytesOf_pos channels (show 0 < s.wsize / 8 by omega)
  · exact Nat.mod_eq_of_lt (Nat.pow_lt_pow_right (by norm_num) (show s.wsize - 1 < 56 by omega))
  · show (s.reportSamples - 1) % 2 ^ 64 + 1 = s.reportSamples
    omega
  · cases mode : s.selectedMode with
    | circular =>
      have := window mode
      have mode' : s.configure.mode = .circular := mode
      rw [mode', State.configure_N_of_circular mode]
      exact Nat.mod_eq_of_lt (show s.windowSlots < 2 ^ 64 by omega)
    | reset =>
      have mode' : s.configure.mode = .reset := mode
      rw [mode', State.configure_N_of_reset mode]
      rfl

/-- The first WRITE that validates starts RUNNING in the invariant, with no slot written (41_config_validator.md R136). -/
theorem State.configure_streamInv (empty : s.buf = []) : StreamInv p s.configure := by
  have configured := State.configure_configured limits valid
  refine ⟨configured, configured.frameBytes_pos, Nat.le_refl _, Nat.zero_le _, fun mode => ?_, fun mode => ?_⟩
  · have window : 0 < s.configure.N.toNat := by
      obtain ⟨_, _, _, _, _, _, _, _, nonempty⟩ := State.valid_facts valid
      rw [configured.slots, mode]
      exact (nonempty mode).1
    have written : s.configure.buf = [] := empty
    exact ⟨Nat.zero_le _, window, fun _ => rfl, by rw [written]; rfl, by simp [written], by rw [written]; rfl⟩
  · exact ⟨Nat.zero_add _, rfl, empty, Nat.zero_le _⟩

end

/-! ## Every step -/

/-- A WRITE in RUNNING, its payload decoded and its result recorded, is in the invariant (42_sample_decoder.md R139). -/
theorem StreamInv.acceptPayload {p : Config.Params} {s : State} (h : StreamInv p s) (running : s.phase = .running)
    (reserved : s.format &&& ~~~formatMask = 0) (payload : List Byte) : Inv p (s.acceptPayload p payload) := by
  have recorded : SameButRecords (s.decodePayload p payload) (s.acceptPayload p payload) := ⟨_, _, _, _, _, _, _, rfl⟩
  have accepted := (h.decodePayload payload).of_sameButRecords recorded
  obtain ⟨phase, _⟩ := s.acceptPayload_frame p payload
  have format : (s.acceptPayload p payload).format = s.format := by
    obtain ⟨_, _, _, _, _, _, _, _, decoded⟩ := s.decodePayload_frame p payload
    rw [State.acceptPayload, decoded]
    rfl
  exact accepted.inv (phase.trans running) (by rw [format, reserved]) rfl

theorem Inv.writeTransaction {p : Config.Params} {s : State} (h : Inv p s) (limits : LegalParams p) (payload : List Byte) :
    Inv p (s.writeTransaction p payload) := by
  cases phase : s.phase with
  | running =>
    rw [State.writeTransaction_running phase]
    exact (runningInv_iff.mp (h.running phase)).1.acceptPayload phase h.reserved payload
  | unconfigured =>
    by_cases valid : s.validate p = .ok
    · rw [State.writeTransaction_valid phase valid]
      exact (State.configure_streamInv limits valid (h.unconfigured phase).buf).acceptPayload rfl h.reserved payload
    · obtain ⟨code, codes, failed⟩ := State.writeTransaction_invalid phase valid payload
      have recorded : SameButRecords s (s.failValidation code) := ⟨_, _, _, _, _, _, _, rfl⟩
      have lastCode : (s.failValidation code).lastCode = code := rfl
      rw [failed]
      refine h.of_sameButRecords recorded ?_ (by simp [phase])
      rcases codes with rfl | rfl <;> simp [lastCode]

/-- A configuration write in UNCONFIGURED keeps the reserved bits 0 and touches no stream state (30_encoding.md R74). -/
theorem Inv.of_storesConfig {p : Config.Params} {s t : State} (h : Inv p s) (unconfigured : s.phase = .unconfigured)
    (stores : StoresConfig s t) : Inv p t := by
  obtain ⟨mode, frameBytes, wordBytes, wordMax, N, P, pend, buf, pos, fill, sum, peak, countdown⟩ :=
    h.unconfigured unconfigured
  obtain ⟨_, _, _, _, _, _, _, reserved, rfl⟩ := stores
  exact ⟨reserved h.reserved, h.lastCode, h.buf,
    fun _ => ⟨mode, frameBytes, wordBytes, wordMax, N, P, pend, buf, pos, fill, sum, peak, countdown⟩,
    fun running => absurd (unconfigured.symm.trans running) (by decide)⟩

/-- Every transaction keeps the invariant, by its meaning. -/
theorem TransactionEffect.keeps_inv {i : Instr} {s t : State} (effect : TransactionEffect i s t) (h : Inv params s) :
    Inv params t := by
  have records {s t : State} (h : Inv params s) (same : SameButRecords s t) (code : t.lastCode = s.lastCode) : Inv params t :=
    h.of_sameButRecords same (by rw [code]; exact h.lastCode) fun phase => by rw [code, (h.running phase).lastCode]
  cases effect with
  | write payload _ => exact h.writeTransaction parametersKeepTheirRangesAndFixedPoints payload
  | softReset => exact records (s.performReset_inv params) ⟨_, _, _, _, _, _, _, rfl⟩ rfl
  | stored _ _ _ unconfigured t stores =>
    exact records (h.of_storesConfig unconfigured stores) ⟨_, _, _, _, _, _, _, rfl⟩ rfl
  | locked | illegal | answered => exact records h ⟨_, _, _, _, _, _, _, rfl⟩ rfl

/-- A step is a transaction or a hardware reset (00_scope.md R3). -/
theorem step_next_cases {s t : State} (h : step s = .next t) :
    (∃ i input, exec i { s with input := input } = .next t) ∨ ∃ input, t = { s with input := input }.performReset := by
  unfold step at h
  split at h
  · exact .inl ⟨_, _, h⟩
  · cases h
    exact .inr ⟨_, rfl⟩
  · cases h
  · cases h

/-- Settles O53: a transaction keeps the invariant by its meaning, and a hardware reset leaves it. -/
theorem everyStepKeepsTheInvariant : Obligations.EveryStepKeepsTheInvariant := by
  intro s t h run
  rcases step_next_cases run with ⟨i, input, transaction⟩ | ⟨input, rfl⟩
  · have consumed : Inv params { s with input := input } :=
      h.of_sameButRecords ⟨_, _, _, _, _, _, _, rfl⟩ h.lastCode fun phase => (h.running phase).lastCode
    exact (exec_effect transaction).keeps_inv consumed
  · exact State.performReset_inv params _

/-- Settles O52. -/
theorem invariantHoldsAtReset : Obligations.InvariantHoldsAtReset := inv_reset params

/-- Settles O54: the fill count bounds the sum, and the window and the interval bound the fill count. -/
theorem theSumStaysBelowItsBound : Obligations.TheSumStaysBelowItsBound := by
  intro s h running
  have stream := (runningInv_iff.mp (h.running running)).1
  have squares := stream.sum_le
  have count := s.fill.isLt
  exact ⟨squares.trans (Nat.mul_le_mul_right _ stream.fill_le), by omega⟩

end Sys2Proof.Machine
end

-- Proofs: splitting a chunk into two WRITEs (20_memory.md R61)
section
/-! PROOF. No sample step reads the history or the record of the last WRITE, so that the response of the first WRITE does not
reach the state and the events of the second. -/

namespace Sys2Proof.Machine

/-! ## Other responses -/

/-- The state with another record of the last WRITE, after another history. -/
def State.withRecord (s : State) (lastCode : Code) (result : Word) (out : List Output) : State :=
  { s with lastCode := lastCode, result := result, out := out }

/-- Two states that differ at most in the responses sent, LASTCODE and RESULT. -/
structure SameButResponses (s t : State) : Prop where
  events : t.events = s.events
  eq : ∃ lastCode result out, t = s.withRecord lastCode result out

theorem SameButResponses.symm {s t : State} (h : SameButResponses s t) : SameButResponses t s := by
  obtain ⟨events, _, _, _, rfl⟩ := h
  exact ⟨events.symm, _, _, _, rfl⟩

theorem SameButResponses.trans {s t u : State} (h : SameButResponses s t) (k : SameButResponses t u) :
    SameButResponses s u := by
  obtain ⟨before, _, _, _, rfl⟩ := h
  obtain ⟨after, _, _, _, rfl⟩ := k
  exact ⟨after.trans before, _, _, _, rfl⟩

/-- The same messages sent from both states keep the events the same. -/
theorem State.emit_events_congr {s t : State} (same : t.events = s.events) (sent : List Output) :
    (t.emit sent).events = (s.emit sent).events := by
  simp only [State.events, State.emit_out, List.filter_append] at same ⊢
  rw [same]

section
variable {s t : State} (h : SameButResponses s t)
include h

theorem SameButResponses.windowFold (q : Square) : SameButResponses (s.windowFold q) (t.windowFold q) := by
  obtain ⟨events, lastCode, result, out, rfl⟩ := h
  cases mode : s.mode with
  | circular =>
    rw [State.windowFold_of_circular mode, State.windowFold_of_circular (s := s.withRecord lastCode result out) mode]
    exact ⟨events, _, _, _, rfl⟩
  | reset =>
    rw [State.windowFold_of_reset mode, State.windowFold_of_reset (s := s.withRecord lastCode result out) mode]
    exact ⟨events, _, _, _, rfl⟩

theorem SameButResponses.peakFold (x : Int) : SameButResponses (s.peakFold x) (t.peakFold x) := by
  obtain ⟨events, _, _, _, rfl⟩ := h
  exact ⟨events, _, _, _, rfl⟩

/-- A report falls due at the same sample and sends the same events (45_report_scheduler.md R168, R170). -/
theorem SameButResponses.schedule (p : Config.Params) : SameButResponses (s.schedule p) (t.schedule p) := by
  obtain ⟨events, lastCode, result, out, rfl⟩ := h
  by_cases due : s.countdown = 0
  · rw [State.schedule_zero p due, State.schedule_zero p (s := s.withRecord lastCode result out) due,
      State.report_eq, State.report_eq]
    exact ⟨State.emit_events_congr events (s.reportEvents p), _, _, _, rfl⟩
  · rw [State.schedule_pos p due, State.schedule_pos p (s := s.withRecord lastCode result out) due]
    exact ⟨events, _, _, _, rfl⟩

theorem SameButResponses.sampleStep (p : Config.Params) (x : Int) :
    SameButResponses (s.sampleStep p x) (t.sampleStep p x) :=
  ((h.windowFold _).peakFold x).schedule p

theorem SameButResponses.decodeFrame (p : Config.Params) (frame : List Byte) :
    SameButResponses (s.decodeFrame p frame) (t.decodeFrame p frame) := by
  have samples : t.frameSamples frame = s.frameSamples frame := by
    obtain ⟨_, _, _, _, rfl⟩ := h
    rfl
  rw [State.decodeFrame, State.decodeFrame, samples]
  exact List.foldl_rel h fun x _ _ _ same => same.sampleStep p x

/-- A byte completes the same frame or waits in both (42_sample_decoder.md R140). -/
theorem SameButResponses.byteStep (p : Config.Params) (b : Byte) : SameButResponses (s.byteStep p b) (t.byteStep p b) := by
  obtain ⟨events, lastCode, result, out, rfl⟩ := h
  by_cases complete : (s.pend ++ [b]).length = s.frameBytes.toNat
  · rw [State.byteStep_completes p complete, State.byteStep_completes p (s := s.withRecord lastCode result out) complete]
    have emptied : SameButResponses { s with pend := [] } { s.withRecord lastCode result out with pend := [] } :=
      ⟨events, lastCode, result, out, rfl⟩
    exact emptied.decodeFrame p _
  · rw [State.byteStep_waits p complete, State.byteStep_waits p (s := s.withRecord lastCode result out) complete]
    exact ⟨events, _, _, _, rfl⟩

theorem SameButResponses.decodePayload (p : Config.Params) (payload : List Byte) :
    SameButResponses (s.decodePayload p payload) (t.decodePayload p payload) :=
  List.foldl_rel h fun b _ _ _ same => same.byteStep p b

end

/-! ## The two WRITEs -/

/-- A response is no report event. -/
theorem State.respond_events (s : State) (code : Code) (data : Word) : (s.respond code data).events = s.events := by
  simp [State.events, Output.isResponse]

/-- What a WRITE adds to the bytes of its payload is its response and its record (42_sample_decoder.md R139, R150). -/
theorem State.acceptPayload_sameButResponses (p : Config.Params) (s : State) (payload : List Byte) :
    SameButResponses (s.decodePayload p payload) (s.acceptPayload p payload) :=
  ⟨State.respond_events _ _ _, _, _, _, rfl⟩

/-- Two WRITEs decode the bytes of one, the first's response in between. -/
theorem State.acceptPayload_append (p : Config.Params) (s : State) (a b : List Byte) :
    SameButResponses ((s.acceptPayload p a).acceptPayload p b) (s.acceptPayload p (a ++ b)) := by
  have bytes : s.decodePayload p (a ++ b) = (s.decodePayload p a).decodePayload p b := List.foldl_append
  have first := (s.acceptPayload_sameButResponses p a).decodePayload p b
  have second := first.trans ((s.acceptPayload p a).acceptPayload_sameButResponses p b)
  have whole := s.acceptPayload_sameButResponses p (a ++ b)
  rw [bytes] at whole
  exact second.symm.trans whole

/-- Settles O26: both WRITEs are accepted, and LASTCODE is OK after either (42_sample_decoder.md R150). -/
theorem splittingAWriteChangesOnlyResponses : Obligations.SplittingAWriteChangesOnlyResponses := by
  intro s a b running
  have accepted {s : State} (running : s.phase = .running) (payload : List Byte) :
      exec (.write payload) s = .next (s.acceptPayload params payload) :=
    congrArg Host.Outcome.next (State.writeTransaction_running running payload)
  have stillRunning : (s.acceptPayload params a).phase = .running := (s.acceptPayload_frame params a).1.trans running
  obtain ⟨events, lastCode, result, out, whole⟩ := s.acceptPayload_append params a b
  have code : lastCode = .ok := (congrArg State.lastCode whole).symm
  subst code
  refine ⟨_, _, _, accepted running (a ++ b), accepted running a, accepted stillRunning b, events, ?_⟩
  rw [whole]
  rfl

end Sys2Proof.Machine
end

-- Proofs: the configuration in RUNNING (20_memory.md R57)
section
/-! PROOF. Of the six meanings of a transaction, the only one in RUNNING that reaches the configuration, the derived constants
or the phase is a soft reset. -/

namespace Sys2Proof.Machine

/-- Two states that differ at most in the stream state that a payload changes, the sticky flags, the record of the last WRITE
and the history. -/
def KeepsConfiguration (s t : State) : Prop :=
  ∃ pend buf pos fill sum peak countdown lastCode lockFault illegalFault result out, t = { s with
    pend := pend, buf := buf, pos := pos, fill := fill, sum := sum, peak := peak, countdown := countdown
    lastCode := lastCode, lockFault := lockFault, illegalFault := illegalFault, result := result, out := out }

theorem KeepsConfiguration.same {s t : State} (h : KeepsConfiguration s t) :
    SameConfig s t ∧ SameDerived s t ∧ t.phase = s.phase := by
  obtain ⟨_, _, _, _, _, _, _, _, _, _, _, _, rfl⟩ := h
  exact ⟨⟨rfl, rfl, rfl, rfl, rfl, rfl, rfl⟩, ⟨rfl, rfl, rfl, rfl, rfl, rfl⟩, rfl⟩

theorem State.acceptPayload_keepsConfiguration (p : Config.Params) (s : State) (payload : List Byte) :
    KeepsConfiguration s (s.acceptPayload p payload) := by
  obtain ⟨_, _, _, _, _, _, _, _, decoded⟩ := s.decodePayload_frame p payload
  rw [State.acceptPayload, decoded]
  exact ⟨_, _, _, _, _, _, _, _, _, _, _, _, rfl⟩

/-- A configuration write is stored in UNCONFIGURED only (40_host_registers.md R87). -/
theorem TransactionEffect.keepsConfiguration {i : Instr} {s t : State} (h : TransactionEffect i s t)
    (running : s.phase = .running) (noReset : isSoftReset i = false) : KeepsConfiguration s t := by
  cases h with
  | write payload _ =>
    rw [State.writeTransaction_running running]
    exact s.acceptPayload_keepsConfiguration params payload
  | softReset is _ => exact absurd is (by simp [noReset])
  | stored _ _ _ unconfigured => exact absurd (unconfigured.symm.trans running) (by decide)
  | locked | illegal | answered => exact ⟨_, _, _, _, _, _, _, _, _, _, _, _, rfl⟩

/-- Settles O49: in RUNNING every meaning but the soft reset keeps the configuration. -/
theorem configurationIsLockedInRunning : Obligations.ConfigurationIsLockedInRunning := by
  intro i s t running run noReset
  obtain ⟨config, derived, phase⟩ := ((exec_effect run).keepsConfiguration running noReset).same
  exact ⟨config, derived, phase.trans running⟩

end Sys2Proof.Machine
end

-- Proofs: register reads (20_memory.md R50, R55)
section
/-! PROOF. A register read answers a value of the state that no response changes, and does nothing else. The two
halves and the six words are those numbers of R50. -/

namespace Sys2Proof.Machine

/-! ## No side effect -/

/-- The transaction answers OK with a value that no response changes, and does nothing else. -/
def AnswersFromState (i : Instr) : Prop :=
  ∃ value : State → Word, (∀ s, exec i s = .next (s.respond .ok (value s))) ∧
    ∀ s code data, value (s.respond code data) = value s

theorem State.respond_respond (s : State) (code code' : Code) (data data' : Word) :
    (s.respond code data).respond code' data' =
      { s with out := s.out ++ [.response code data, .response code' data'] } := by
  simp [State.respond]

/-- A REG_WRITE is no REG_READ: four DATA bytes follow its header (30_encoding.md R67, R68). -/
theorem isRegRead_of_regWrite {i : Instr} {off : Byte} {v : Word} (bytes : encode i = encodeRegWrite off v) :
    isRegRead i = false := by
  simp [isRegRead, bytes, encodeRegWrite]

/-- A WRITE is no REG_READ: LEN follows its header (30_encoding.md R69). -/
theorem isRegRead_write (payload : List Byte) : isRegRead (.write payload) = false := by
  simp [isRegRead, encode]

/-- Every REG_READ answers from the state (20_memory.md R55). -/
theorem answersFromState_of_isRegRead {i : Instr} (read : isRegRead i = true) : AnswersFromState i := by
  cases i with
  | write payload => exact absurd read (by simp [isRegRead_write])
  | illegal header => exact absurd read (by simp [isRegRead, isIllegalHeader])
  | wrRate v | wrChannels v | wrFormat v | wrWindowLo v | wrWindowHi v | wrObserveLo v | wrObserveHi v | wrStatus v
  | wrResult v | wrCtrl v | wrPeriodLo v | wrPeriodHi v | wrWsampLo v | wrWsampHi v | wrCountLo v | wrCountHi v
  | wrFillLo v | wrFillHi v | wrPeakLo v | wrPeakHi v | wrPend v | wrPosLo v | wrPosHi v | wrSum0 v | wrSum1 v
  | wrSum2 v | wrSum3 v | wrSum4 v | wrSum5 v | wrReserved5C v | wrReserved78 v | wrReserved7C v | wrReservedHigh off v =>
    rw [isRegRead_of_regWrite rfl] at read
    cases read
  | rdRate | rdChannels | rdFormat | rdWindowLo | rdWindowHi | rdObserveLo | rdObserveHi | rdStatus | rdResult | rdCtrl
  | rdPeriodLo | rdPeriodHi | rdWsampLo | rdWsampHi | rdCountLo | rdCountHi | rdFillLo | rdFillHi | rdPeakLo | rdPeakHi
  | rdPend | rdPosLo | rdPosHi | rdSum0 | rdSum1 | rdSum2 | rdSum3 | rdSum4 | rdSum5 | rdReserved5C | rdReserved78
  | rdReserved7C | rdReservedHigh off =>
    exact ⟨_, fun _ => rfl, fun _ _ _ => rfl⟩

/-- Settles O21: the second read answers from a state that differs in the history alone. -/
theorem registerReadsHaveNoSideEffect : Obligations.RegisterReadsHaveNoSideEffect := by
  intro i s read
  obtain ⟨value, answers, value_respond⟩ := answersFromState_of_isRegRead read
  have again := answers (s.respond .ok (value s))
  rw [value_respond, State.respond_respond] at again
  exact ⟨value s, answers s, again⟩

/-! ## The parts of a quantity -/

/-- Bits 31:0 of a 64-bit quantity, as a number (R50). -/
theorem loWord_eq (v : Wide) : loWord v = BitVec.ofNat 32 (v.toNat % 2 ^ 32) := by
  apply BitVec.eq_of_toNat_eq
  rw [loWord, extract_toNat, BitVec.toNat_ofNat]
  omega

/-- Bits 63:32 of a 64-bit quantity, as a number (R50). -/
theorem hiWord_eq (v : Wide) : hiWord v = BitVec.ofNat 32 (v.toNat / 2 ^ 32) := by
  apply BitVec.eq_of_toNat_eq
  rw [hiWord, extract_toNat, BitVec.toNat_ofNat]

/-- Bits 32k+31:32k of the sum, as a number (R50). -/
theorem sumWord_eq (k : Nat) (v : Sum) : sumWord k v = BitVec.ofNat 32 (v.toNat / 2 ^ (32 * k) % 2 ^ 32) := by
  apply BitVec.eq_of_toNat_eq
  rw [sumWord, extract_toNat, BitVec.toNat_ofNat, Nat.mod_mod]

/-- The lowest word needs no division. -/
theorem sumWord_zero (v : Sum) : sumWord 0 v = BitVec.ofNat 32 (v.toNat % 2 ^ 32) := by
  rw [sumWord_eq, Nat.mul_zero, Nat.pow_zero, Nat.div_one]

/-- The sum has 176 bits, so that its highest word has 16 (40_host_registers.md R125). -/
theorem sumWord_five (v : Sum) : sumWord 5 v = BitVec.ofNat 32 (v.toNat / 2 ^ 160 % 2 ^ 16) := by
  have bound := v.isLt
  rw [sumWord_eq]
  congr 1
  omega

/-! ## The registers -/

/-- A REG_READ answers the value its meaning does, in the numbers a statement gives. -/
theorem ReadsRegister.of_answer {i : Instr} {header : Word} {answer value : State → Word}
    (bytes : encode i = bytesOfWord header) (answers : ∀ s, exec i s = .next (s.respond .ok (answer s)))
    (same : ∀ s, answer s = value s) : ReadsRegister i header value :=
  ⟨bytes, fun s => by rw [answers, same]; rfl⟩

/-- The `_LO` register of a quantity. -/
theorem ReadsRegister.lo {i : Instr} {header : Word} (quantity : State → Wide) (bytes : encode i = bytesOfWord header)
    (answers : ∀ s, exec i s = .next (s.respond .ok (loWord (quantity s)))) :
    ReadsRegister i header fun s => BitVec.ofNat 32 ((quantity s).toNat % 2 ^ 32) :=
  .of_answer bytes answers fun s => loWord_eq (quantity s)

/-- The `_HI` register of a quantity. -/
theorem ReadsRegister.hi {i : Instr} {header : Word} (quantity : State → Wide) (bytes : encode i = bytesOfWord header)
    (answers : ∀ s, exec i s = .next (s.respond .ok (hiWord (quantity s)))) :
    ReadsRegister i header fun s => BitVec.ofNat 32 ((quantity s).toNat / 2 ^ 32) :=
  .of_answer bytes answers fun s => hiWord_eq (quantity s)

/-- Settles O16: six quantities, each by its two halves. -/
theorem observationReadsAnswerTheHalves : Obligations.ObservationReadsAnswerTheHalves :=
  ⟨.lo State.P rfl fun _ => rfl, .hi State.P rfl fun _ => rfl,
    .lo State.N rfl fun _ => rfl, .hi State.N rfl fun _ => rfl,
    .lo State.countdown rfl fun _ => rfl, .hi State.countdown rfl fun _ => rfl,
    .lo State.fill rfl fun _ => rfl, .hi State.fill rfl fun _ => rfl,
    .lo State.peak rfl fun _ => rfl, .hi State.peak rfl fun _ => rfl,
    .lo State.pos rfl fun _ => rfl, .hi State.pos rfl fun _ => rfl⟩

/-- Settles O17: the words between the lowest and the highest are the general ones. -/
theorem sumReadsAnswerTheWordsOfTheSum : Obligations.SumReadsAnswerTheWordsOfTheSum :=
  ⟨.of_answer rfl (fun _ => rfl) fun s => sumWord_zero s.sum,
    .of_answer rfl (fun _ => rfl) fun s => sumWord_eq 1 s.sum,
    .of_answer rfl (fun _ => rfl) fun s => sumWord_eq 2 s.sum,
    .of_answer rfl (fun _ => rfl) fun s => sumWord_eq 3 s.sum,
    .of_answer rfl (fun _ => rfl) fun s => sumWord_eq 4 s.sum,
    .of_answer rfl (fun _ => rfl) fun s => sumWord_five s.sum⟩

end Sys2Proof.Machine
end

-- Proofs: the bytes of a transaction (30_encoding.md R66 to R75, R82)
section
/-! PROOF. The decoder and the encoder are inverse. So no encoding begins with another, and every claim about the bytes
of a transaction follows from the two round trips. -/

namespace Sys2Proof

/-! ## Four bytes -/

/-- Four bytes of the channel are a word (R66, R70). -/
theorem exists_bytesOfWord_append {bytes : List Byte} (h : 4 ≤ bytes.length) : ∃ w rest, bytes = bytesOfWord w ++ rest := by
  match bytes, h with
  | b0 :: b1 :: b2 :: b3 :: rest, _ => exact ⟨wordOfBytes b0 b1 b2 b3, rest, by rw [bytesOfWord_wordOfBytes]; rfl⟩

/-- Fewer than four bytes are no header (R71). -/
theorem decode_of_length_lt_four {bytes : List Byte} (h : bytes.length < 4) : ∃ e, decode bytes = .error e := by
  match bytes, h with
  | [], _ => exact ⟨_, rfl⟩
  | [_], _ | [_, _], _ | [_, _, _], _ => exact ⟨_, rfl⟩

/-! ## What follows a header -/

section
variable {header : Word}

/-- The operand of a REG_WRITE is one word (R67). -/
theorem decode_regWrite {off : Byte} (form : classify header = .regWrite off) (v : Word) (rest : List Byte) :
    decode (bytesOfWord header ++ (bytesOfWord v ++ rest)) = .ok (decodeRegWrite off v, rest) := by
  rw [decode_header, form]
  simp [bytesOfWord]

/-- A REG_WRITE without its whole operand waits (R71, R213). -/
theorem decode_regWrite_of_length_lt {off : Byte} (form : classify header = .regWrite off) {rest : List Byte}
    (h : rest.length < 4) : decode (bytesOfWord header ++ rest) = .error .data := by
  rw [decode_header, form]
  match rest, h with
  | [], _ | [_], _ | [_, _], _ | [_, _, _], _ => rfl

/-- After the header of a WRITE comes LEN, then as many bytes (R69). -/
theorem decode_write (form : classify header = .write) (len : Word) (rest : List Byte) :
    decode (bytesOfWord header ++ (bytesOfWord len ++ rest)) = if len.toNat ≤ rest.length
      then .ok (.write (rest.take len.toNat), rest.drop len.toNat) else .error .payload := by
  rw [decode_header, form]
  simp [bytesOfWord]

/-- A WRITE without its whole LEN waits (R71, R213). -/
theorem decode_write_of_length_lt (form : classify header = .write) {rest : List Byte} (h : rest.length < 4) :
    decode (bytesOfWord header ++ rest) = .error .len := by
  rw [decode_header, form]
  match rest, h with
  | [], _ | [_], _ | [_, _], _ | [_, _, _], _ => rfl

/-- An accepted REG_WRITE had its whole operand. -/
theorem regWrite_of_decode_ok {off : Byte} (form : classify header = .regWrite off) {i : Instr} {tail rest : List Byte}
    (h : decode (bytesOfWord header ++ tail) = .ok (i, rest)) :
    ∃ v, i = decodeRegWrite off v ∧ tail = bytesOfWord v ++ rest := by
  by_cases short : tail.length < 4
  · simp [decode_regWrite_of_length_lt form short] at h
  · obtain ⟨v, after, rfl⟩ := exists_bytesOfWord_append (Nat.le_of_not_lt short)
    rw [decode_regWrite form] at h
    cases h
    exact ⟨v, rfl, rfl⟩

/-- An accepted WRITE had its whole payload, and its LEN is the length of that. -/
theorem write_of_decode_ok (form : classify header = .write) {i : Instr} {tail rest : List Byte}
    (h : decode (bytesOfWord header ++ tail) = .ok (i, rest)) : ∃ payload, payload.length < 2 ^ 32 ∧ i = .write payload ∧
      tail = bytesOfWord (BitVec.ofNat 32 payload.length) ++ payload ++ rest := by
  by_cases short : tail.length < 4
  · simp [decode_write_of_length_lt form short] at h
  · obtain ⟨len, after, rfl⟩ := exists_bytesOfWord_append (Nat.le_of_not_lt short)
    by_cases whole : len.toNat ≤ after.length
    · rw [decode_write form, if_pos whole] at h
      cases h
      have length : (after.take len.toNat).length = len.toNat := List.length_take_of_le whole
      refine ⟨after.take len.toNat, length.trans_lt len.isLt, rfl, ?_⟩
      rw [length, BitVec.ofNat_toNat, BitVec.setWidth_eq, List.append_assoc, List.take_append_drop]
    · simp [decode_write form, whole] at h

end

/-! ## The offset table -/

/-- The transaction is well formed and these are its bytes. -/
def IsEncodedBy (i : Instr) (bytes : List Byte) : Prop := i.wf = true ∧ encode i = bytes

/-- An aligned offset is a listed one, the 32 below 0x80, or one of the reserved range (40_host_registers.md R126). -/
theorem aligned_offset_cases {off : Byte} (aligned : off.toNat % 4 = 0) :
    (∃ k < 32, off = BitVec.ofNat 8 (4 * k)) ∨ reservedHighOffset off = true := by
  rw [reservedHighOffset_iff]
  by_cases high : 0x80 ≤ off.toNat
  · exact .inr ⟨high, aligned⟩
  · refine .inl ⟨off.toNat / 4, by omega, ?_⟩
    rw [Nat.mul_div_cancel' (Nat.dvd_of_mod_eq_zero aligned), BitVec.ofNat_toNat, BitVec.setWidth_eq]

/-- The offset table of the decoder is that of the encoder, for REG_WRITE (R72, R73). -/
theorem decodeRegWrite_isEncodedBy {off : Byte} (aligned : off.toNat % 4 = 0) (v : Word) :
    IsEncodedBy (decodeRegWrite off v) (encodeRegWrite off v) := by
  rcases aligned_offset_cases aligned with ⟨k, listed, rfl⟩ | reserved
  · interval_cases k <;> exact ⟨rfl, rfl⟩
  · rw [decodeRegWrite_reservedHigh ((reservedHighOffset_iff off).mp reserved).1]
    exact ⟨reserved, rfl⟩

/-- The same for REG_READ (R72, R73). -/
theorem decodeRegRead_isEncodedBy {off : Byte} (aligned : off.toNat % 4 = 0) :
    IsEncodedBy (decodeRegRead off) (encodeRegRead off) := by
  rcases aligned_offset_cases aligned with ⟨k, listed, rfl⟩ | reserved
  · interval_cases k <;> exact ⟨rfl, rfl⟩
  · rw [decodeRegRead_reservedHigh ((reservedHighOffset_iff off).mp reserved).1]
    exact ⟨reserved, rfl⟩

/-! ## The two round trips -/

/-- The bytes the decoder took are those of the transaction it made of them, by the form of their header. -/
theorem bytes_of_decode_ok {i : Instr} {bytes rest : List Byte} (h : decode bytes = .ok (i, rest)) :
    ∃ taken, IsEncodedBy i taken ∧ bytes = taken ++ rest := by
  have hasHeader : 4 ≤ bytes.length := by
    by_contra short
    obtain ⟨e, waits⟩ := decode_of_length_lt_four (Nat.lt_of_not_le short)
    simp [waits] at h
  obtain ⟨header, tail, rfl⟩ := exists_bytesOfWord_append hasHeader
  have fields := header_of_classify header
  cases form : classify header with
  | illegal =>
    rw [form] at fields
    rw [decode_header, form] at h
    cases h
    exact ⟨bytesOfWord header, ⟨fields, rfl⟩, rfl⟩
  | regRead off =>
    rw [form] at fields
    obtain ⟨aligned, rfl⟩ := fields
    rw [decode_header, form] at h
    cases h
    exact ⟨encodeRegRead off, decodeRegRead_isEncodedBy aligned, rfl⟩
  | regWrite off =>
    rw [form] at fields
    obtain ⟨aligned, rfl⟩ := fields
    obtain ⟨v, rfl, rfl⟩ := regWrite_of_decode_ok form h
    exact ⟨encodeRegWrite off v, decodeRegWrite_isEncodedBy aligned v, (List.append_assoc _ _ _).symm⟩
  | write =>
    rw [form] at fields
    subst fields
    obtain ⟨payload, fits, rfl, rfl⟩ := write_of_decode_ok form h
    exact ⟨encode (.write payload), ⟨decide_eq_true fits, rfl⟩, by simp [encode]⟩

/-- What the decoder accepts is well formed, and it took exactly its bytes. -/
theorem encode_of_decode_ok {i : Instr} {bytes rest : List Byte} (h : decode bytes = .ok (i, rest)) :
    i.wf = true ∧ bytes = encode i ++ rest := by
  obtain ⟨_, ⟨wf, rfl⟩, bytes⟩ := bytes_of_decode_ok h
  exact ⟨wf, bytes⟩

/-- Settles O6: the offsets of the encoder are those of the decoder, one by one. -/
theorem decodeGivesBackEveryEncodedTransaction : Obligations.DecodeGivesBackEveryEncodedTransaction :=
  fun _ rest wf => decode_encode wf rest

/-- Settles O7: the header's form says which bytes follow it, and the offset table is the encoder's. -/
theorem everyDecodedTransactionIsItsBytes : Obligations.EveryDecodedTransactionIsItsBytes :=
  fun _ _ _ accepted => encode_of_decode_ok accepted

/-! ## Part transactions -/

/-- No encoding begins with another: the decoder would read both from the same bytes. -/
theorem eq_of_encode_eq_append {i j : Instr} {after : List Byte} (hi : i.wf = true) (hj : j.wf = true)
    (h : encode i = encode j ++ after) : i = j ∧ after = [] := by
  have whole : decode (encode i) = .ok (i, []) := by simpa using decode_encode hi []
  rw [h, decode_encode hj] at whole
  cases whole
  exact ⟨rfl, rfl⟩

/-- Settles O8: a transaction read from a part would have an encoding that the whole one begins with. -/
theorem properPrefixesAreIncomplete : Obligations.ProperPrefixesAreIncomplete := by
  intro i n wf proper
  cases read : decode ((encode i).take n) with
  | error e => exact ⟨e, rfl⟩
  | ok result =>
    obtain ⟨j, rest⟩ := result
    obtain ⟨wf', bytes⟩ := encode_of_decode_ok read
    have begins : encode i = encode j ++ (rest ++ (encode i).drop n) := by
      rw [← List.append_assoc, ← bytes, List.take_append_drop]
    obtain ⟨_, nothingLeft⟩ := eq_of_encode_eq_append wf wf' begins
    obtain ⟨_, noDrop⟩ := List.append_eq_nil_iff.mp nothingLeft
    exact absurd (List.drop_eq_nil_iff.mp noDrop) (Nat.not_le_of_lt proper)

/-! ## Illegal headers -/

/-- The fields of R75 as numbers. -/
theorem headerIllegal_iff (h : Word) : headerIllegal h = true ↔ Machine.IllegalHeaderNumber h.toNat := by
  have bound := h.isLt
  have type : (h.extractLsb' 28 4).toNat = h.toNat / 2 ^ 28 := by rw [extract_toNat]; omega
  have nonzero (start len : Nat) : (h.extractLsb' start len != 0) = true ↔ h.toNat / 2 ^ start % 2 ^ len ≠ 0 := by
    rw [bne_iff_ne, ← extract_toNat, ne_eq, ← BitVec.toNat_inj]
    rfl
  simp only [headerIllegal, Machine.IllegalHeaderNumber, Bool.or_eq_true, Bool.and_eq_true, nonzero, type, beq_iff_eq,
    decide_eq_true_eq, Nat.pow_zero, Nat.div_one, Nat.reducePow, or_assoc]

/-- Settles O9: the decoder makes an illegal transaction of a header exactly if it is well formed. -/
theorem headersAreIllegalExactlyAsListed : Obligations.HeadersAreIllegalExactlyAsListed := by
  intro h rest
  refine ⟨?_, fun _ => rfl⟩
  rw [← headerIllegal_iff]
  exact ⟨fun illegal => decode_encode_illegal illegal rest, fun read => (encode_of_decode_ok read).1⟩

/-! ## Written out -/

/-- Settles O10: the bytes written out are the encodings of what they stand for (R82). -/
theorem writtenOutTransactionsDecode : Obligations.WrittenOutTransactionsDecode :=
  ⟨decode_encode (i := .wrRate 44100) rfl [], decode_encode (i := .wrCtrl 1) rfl [], decode_encode (i := .rdStatus) rfl [],
    decode_encode (i := .rdSum5) rfl [], decode_encode (i := .rdReservedHigh 0xFC) rfl [],
    decode_encode (i := .write [0x01, 0x02, 0x03]) rfl [], decode_encode (i := .illegal 0x40000000) rfl []⟩

end Sys2Proof
end

-- Proofs: the bytes of a message (30_encoding.md R78, R79)
section
/-! PROOF. The length of a message tells its kind, and fields of fixed length that are given back from their bytes tell the
rest. -/

namespace Sys2Proof

/-- The bytes of a channel field, each by its place (20_memory.md R49). -/
theorem bytesLE_eq_littleEndian (n v : Nat) : bytesLE n v = Machine.littleEndian n v := by
  induction n generalizing v with
  | zero => rfl
  | succ n ih =>
    have place (k : Nat) : v / 256 / 2 ^ (8 * k) = v / 2 ^ (8 * (k + 1)) := by
      rw [Nat.div_div_eq_div_mul, Nat.mul_succ, Nat.pow_add, Nat.mul_comm]
    simp only [bytesLE, ih, Machine.littleEndian, List.range_succ_eq_map, List.map_cons, List.map_map, Function.comp_def, place]
    simp

/-- The bytes of a word are those of its number. -/
theorem bytesOfWord_eq_bytesLE (w : Word) : bytesOfWord w = bytesLE 4 w.toNat := by
  have bytes := bytesLE_natLE (bytesOfWord w)
  have value : natLE (bytesOfWord w) = w.toNat := by
    conv_rhs => rw [← wordOfBytes_extract w, wordOfBytes_toNat]
    simp only [bytesOfWord, natLE_cons, natLE_nil]
    omega
  rwa [value, eq_comm] at bytes

/-- A field that holds every value of its width is given back by its bytes. -/
theorem bytesLE_toNat_injective {n : Nat} {x y : BitVec (8 * n)} (h : bytesLE n x.toNat = bytesLE n y.toNat) : x = y := by
  apply BitVec.eq_of_toNat_eq
  have values := congrArg natLE h
  rwa [natLE_bytesLE, natLE_bytesLE, Nat.mod_eq_of_lt x.isLt, Nat.mod_eq_of_lt y.isLt] at values

/-- A field, then the rest of a message: both are given back. -/
theorem bytesLE_append_inj {n : Nat} {x y : BitVec (8 * n)} {after after' : List Byte}
    (h : bytesLE n x.toNat ++ after = bytesLE n y.toNat ++ after') : x = y ∧ after = after' := by
  obtain ⟨field, rest⟩ := List.append_inj h (by simp)
  exact ⟨bytesLE_toNat_injective field, rest⟩

end Sys2Proof

namespace Sys2Proof.Machine

/-- The five response codes have five numbers, each a byte (60_exceptions.md R185). -/
theorem Code.byte_injective {a b : Code} (h : BitVec.ofNat 8 a.number = BitVec.ofNat 8 b.number) : a = b := by
  revert h
  cases a <;> cases b <;> decide

/-- A response is 5 bytes (R78), an RMS event 39 and a PEAK event 17 (R79). -/
theorem Output.bytes_length (o : Output) : o.bytes.length = match o with
    | .response _ _ => 5
    | .rmsEvent _ _ _ => 39
    | .peakEvent _ _ => 17 := by
  cases o <;> simp [Output.bytes]

/-- No two messages have the same bytes (R78, R79). -/
theorem Output.bytes_injective {a b : Output} (h : a.bytes = b.bytes) : a = b := by
  have lengths := congrArg List.length h
  rw [Output.bytes_length, Output.bytes_length] at lengths
  cases a with
  | response code data =>
    cases b with
    | response code' data' =>
      obtain ⟨first, word⟩ := List.cons.inj h
      rw [Code.byte_injective first, bytesOfWord_injective word]
    | rmsEvent | peakEvent => simp at lengths
  | rmsEvent db div sum =>
    cases b with
    | rmsEvent db' div' sum' =>
      have fields := (List.cons.inj h).2
      rw [List.append_assoc, List.append_assoc] at fields
      obtain ⟨sameDb, fields⟩ := bytesLE_append_inj fields
      obtain ⟨sameDiv, fields⟩ := bytesLE_append_inj fields
      rw [sameDb, sameDiv, bytesLE_toNat_injective fields]
    | response | peakEvent => simp at lengths
  | peakEvent db peak =>
    cases b with
    | peakEvent db' peak' =>
      obtain ⟨sameDb, fields⟩ := bytesLE_append_inj (List.cons.inj h).2
      rw [sameDb, bytesLE_toNat_injective fields]
    | response | rmsEvent => simp at lengths

/-- Settles O11: each field is written with `bytesLE`, and the messages are told apart by their lengths. -/
theorem messageBytesHaveTheirLayoutAndAreUnambiguous : Obligations.MessageBytesHaveTheirLayoutAndAreUnambiguous := by
  refine ⟨fun code data => ⟨?_, Output.bytes_length _⟩, fun db div sum => ⟨?_, Output.bytes_length _⟩,
    fun db peak => ⟨?_, Output.bytes_length _⟩, ⟨rfl, rfl, rfl, rfl, rfl⟩, fun _ _ => Output.bytes_injective⟩
  · rw [← bytesLE_eq_littleEndian, ← bytesLE_eq_littleEndian, ← bytesOfWord_eq_bytesLE]
    rfl
  · simp only [← bytesLE_eq_littleEndian]
    rfl
  · simp only [← bytesLE_eq_littleEndian]
    rfl

end Sys2Proof.Machine
end

-- Proofs: the two encodings of a sample (30_encoding.md R63)
section
/-! PROOF. To turn the top bit over is to add the bias below it and to subtract it from it on. -/

namespace Sys2Proof.Machine

/-- Turning over a bit above all others adds it. -/
theorem xor_two_pow_of_lt {raw k : Nat} (h : raw < 2 ^ k) : raw ^^^ 2 ^ k = 2 ^ k + raw := by
  refine Nat.eq_of_testBit_eq fun j => ?_
  rw [Nat.testBit_xor, Nat.testBit_two_pow]
  rcases Nat.lt_trichotomy j k with below | rfl | above
  · simp [Nat.testBit_two_pow_add_gt below, Nat.ne_of_gt below]
  · simp [Nat.testBit_two_pow_add_eq]
  · have room : 2 ^ k + 2 ^ k ≤ 2 ^ j := by
      rw [← Nat.two_mul, ← Nat.pow_succ']
      exact Nat.pow_le_pow_right (by decide) above
    rw [Nat.testBit_lt_two_pow (by omega : raw < 2 ^ j), Nat.testBit_lt_two_pow (by omega : 2 ^ k + raw < 2 ^ j)]
    simp [Nat.ne_of_lt above]

/-- Turning over the highest bit of a number that has it subtracts it. -/
theorem xor_two_pow_of_le {raw k : Nat} (h : 2 ^ k ≤ raw) (fits : raw < 2 ^ (k + 1)) : raw ^^^ 2 ^ k = raw - 2 ^ k := by
  have low : raw - 2 ^ k < 2 ^ k := by rw [Nat.pow_succ] at fits; omega
  have back : (raw - 2 ^ k) ^^^ 2 ^ k = raw := by rw [xor_two_pow_of_lt low]; omega
  conv_lhs => rw [← back, Nat.xor_xor_cancel_right]

/-- Settles O29, by the top bit of the raw value. -/
theorem encodingsDifferInTheTopBit : Obligations.EncodingsDifferInTheTopBit := by
  intro wsize raw positive fits
  obtain ⟨k, rfl⟩ := Nat.exists_eq_add_of_le' positive
  have double : (2 : Int) ^ (k + 1) = 2 ^ k + 2 ^ k := by rw [pow_succ]; ring
  simp only [sampleOfRaw, Nat.add_sub_cancel, Bool.false_eq_true, if_false, if_true]
  by_cases top : 2 ^ k ≤ raw
  · rw [if_pos top, xor_two_pow_of_le top fits, Nat.cast_sub top]
    push_cast
    omega
  · rw [if_neg top, xor_two_pow_of_lt (Nat.lt_of_not_le top)]
    push_cast
    omega

end Sys2Proof.Machine
end

-- Proofs: the response of a transaction (30_encoding.md R78)
section
/-! PROOF. What is sent before the response of a transaction is the events of its payload, and only a WRITE has one. -/

namespace Sys2Proof.Machine

/-- Between the two states the block has sent these, all of them report events. -/
structure SendsEvents (events : List Output) (s t : State) : Prop where
  out : t.out = s.out ++ events
  onPort : ∀ e ∈ events, e.isResponse = false

theorem SendsEvents.refl (s : State) : SendsEvents [] s s := ⟨by simp, by simp⟩

theorem SendsEvents.trans {events later : List Output} {s t u : State} (h : SendsEvents events s t)
    (k : SendsEvents later t u) : SendsEvents (events ++ later) s u where
  out := by rw [k.out, h.out, List.append_assoc]
  onPort e he := (List.mem_append.mp he).elim (h.onPort e) (k.onPort e)

/-- Steps that each send report events send report events (45_report_scheduler.md R183). -/
theorem SendsEvents.foldl {α : Type} {f : State → α → State} (each : ∀ s a, ∃ events, SendsEvents events s (f s a))
    (s : State) (as : List α) : ∃ events, SendsEvents events s (as.foldl f s) := by
  induction as generalizing s with
  | nil => exact ⟨[], .refl s⟩
  | cons a as ih =>
    obtain ⟨_, first⟩ := each s a
    obtain ⟨_, others⟩ := ih (f s a)
    exact ⟨_, first.trans others⟩

/-- A sample step sends the events of a report, or nothing (R170). -/
theorem State.sampleStep_sendsEvents (p : Config.Params) (s : State) (x : Int) :
    ∃ events, SendsEvents events s (s.sampleStep p x) := by
  refine ⟨_, s.sampleStep_out p x, fun e he => ?_⟩
  split at he
  · exact State.reportEvents_isResponse p _ e he
  · cases he

theorem State.byteStep_sendsEvents (p : Config.Params) (s : State) (b : Byte) :
    ∃ events, SendsEvents events s (s.byteStep p b) := by
  by_cases complete : (s.pend ++ [b]).length = s.frameBytes.toNat
  · rw [State.byteStep_completes p complete]
    obtain ⟨events, sent⟩ := SendsEvents.foldl (State.sampleStep_sendsEvents p) { s with pend := [] }
      (({ s with pend := [] } : State).frameSamples (s.pend ++ [b]))
    exact ⟨events, sent.out, sent.onPort⟩
  · rw [State.byteStep_waits p complete]
    exact ⟨[], by simp, by simp⟩

/-- `t` is what `s` becomes by sending these events and then one response. -/
structure Responds (events : List Output) (s t : State) : Prop where
  out : ∃ code data, t.out = s.out ++ events ++ [.response code data]
  onPort : ∀ e ∈ events, e.isResponse = false

/-- A transaction that only responds sends no event. -/
theorem Responds.of_out {s t : State} {code : Code} {data : Word} (h : t.out = s.out ++ [.response code data]) :
    Responds [] s t := ⟨⟨code, data, by simpa using h⟩, by simp⟩

/-- A decoded payload sends its events before the response (R180). -/
theorem State.acceptPayload_responds (p : Config.Params) (s : State) (payload : List Byte) :
    ∃ events, Responds events s (s.acceptPayload p payload) := by
  obtain ⟨events, sent⟩ := SendsEvents.foldl (State.byteStep_sendsEvents p) s payload
  exact ⟨events, ⟨_, _, congrArg (· ++ _) sent.out⟩, sent.onPort⟩

/-- A WRITE responds whether it validates or not (41_config_validator.md R132, 42_sample_decoder.md R139). -/
theorem State.writeTransaction_responds (p : Config.Params) (s : State) (payload : List Byte) :
    ∃ events, Responds events s (s.writeTransaction p payload) := by
  cases phase : s.phase with
  | running =>
    rw [State.writeTransaction_running phase]
    exact s.acceptPayload_responds p payload
  | unconfigured =>
    by_cases valid : s.validate p = .ok
    · rw [State.writeTransaction_valid phase valid]
      obtain ⟨events, sent⟩ := s.configure.acceptPayload_responds p payload
      exact ⟨events, sent.out, sent.onPort⟩
    · obtain ⟨code, _, failed⟩ := State.writeTransaction_invalid phase valid payload
      rw [failed]
      exact ⟨[], .of_out rfl⟩

/-- Each of the six meanings responds, and only a WRITE sends events. -/
theorem TransactionEffect.responds {i : Instr} {s t : State} (h : TransactionEffect i s t) :
    ∃ events, Responds events s t ∧ (isWrite i = false → events = []) := by
  cases h with
  | write payload is =>
    obtain ⟨events, sent⟩ := s.writeTransaction_responds params payload
    exact ⟨events, sent, fun notWrite => by simp [is, isWrite] at notWrite⟩
  | stored _ _ _ _ _ stores =>
    obtain ⟨_, _, _, _, _, _, _, _, rfl⟩ := stores
    exact ⟨[], .of_out rfl, fun _ => rfl⟩
  | softReset | locked | illegal | answered => exact ⟨[], .of_out rfl, fun _ => rfl⟩

/-- No transaction stops the block: each has a next state (60_exceptions.md R202). -/
theorem exec_total (i : Instr) (s : State) : ∃ t, exec i s = .next t := by
  cases i <;> exact ⟨_, rfl⟩

/-- Settles O47: each transaction has one of the six meanings. -/
theorem everyTransactionGetsExactlyOneResponse : Obligations.EveryTransactionGetsExactlyOneResponse := by
  intro i s
  obtain ⟨t, run⟩ := exec_total i s
  obtain ⟨events, ⟨⟨code, data, out⟩, onPort⟩, onlyWrite⟩ := (exec_effect run).responds
  exact ⟨t, events, code, data, run, out, onPort, onlyWrite⟩

end Sys2Proof.Machine
end

-- Proofs: the host registers (40_host_registers.md R87 to R106, R117, R126)
section
/-! PROOF. A register transaction is a header at an offset and one of four answers: a value, a write ignored, a write under
the configuration lock, or the soft reset. Each register is then its bytes and which of the four it has. -/

namespace Sys2Proof.Machine

/-! ## Headers at an offset -/

theorem regWriteHeader_toNat (off : Byte) : (0x10000000#32 + off.setWidth 32).toNat = 1 * 2 ^ 28 + off.toNat := by
  bv_omega

theorem regReadHeader_toNat (off : Byte) : (0x20000000#32 + off.setWidth 32).toNat = 2 * 2 ^ 28 + off.toNat := by
  bv_omega

/-- The header of a REG_WRITE, as a sum (30_encoding.md R67). -/
theorem encodeRegWrite_eq (off : Byte) (v : Word) :
    encodeRegWrite off v = bytesOfWord (0x10000000#32 + off.setWidth 32) ++ bytesOfWord v := by
  have header : 0x100000#24 ++ off = 0x10000000#32 + off.setWidth 32 := by
    apply BitVec.eq_of_toNat_eq
    rw [append_toNat, regWriteHeader_toNat]
    rfl
  rw [encodeRegWrite, header]

/-- The header of a REG_READ, as a sum (30_encoding.md R68). -/
theorem encodeRegRead_eq (off : Byte) : encodeRegRead off = bytesOfWord (0x20000000#32 + off.setWidth 32) := by
  have header : 0x200000#24 ++ off = 0x20000000#32 + off.setWidth 32 := by
    apply BitVec.eq_of_toNat_eq
    rw [append_toNat, regReadHeader_toNat]
    rfl
  rw [encodeRegRead, header]

/-- A register header with an unaligned offset is illegal (30_encoding.md R75). -/
theorem decode_unaligned {header : Word} {type : Nat} {off : Byte} (number : header.toNat = type * 2 ^ 28 + off.toNat)
    (register : type = 1 ∨ type = 2) (unaligned : off.toNat % 4 ≠ 0) (rest : List Byte) :
    decode (bytesOfWord header ++ rest) = .ok (.illegal header, rest) := by
  have bound := off.isLt
  have illegal : IllegalHeaderNumber header.toNat := by
    refine .inr (.inr (.inl ⟨?_, ?_⟩)) <;> omega
  exact decode_encode_illegal ((headerIllegal_iff header).mpr illegal) rest

/-! ## Writes -/

/-- A REG_WRITE that only answers is ignored (R105, R126). -/
theorem IgnoresWrite.of_answer {i : Word → Instr} {header : Word}
    (bytes : ∀ v, encode (i v) = bytesOfWord header ++ bytesOfWord v)
    (answers : ∀ v s, exec (i v) s = .next (s.respond .ok 0)) : IgnoresWrite i header :=
  fun v => ⟨bytes v, answers v⟩

/-- A REG_WRITE through `writeConfig` is under the configuration lock (R87); its store sends nothing. -/
theorem WritesUnderLock.of_writeConfig {i : Word → Instr} {header : Word} {store : Word → State → State}
    (bytes : ∀ v, encode (i v) = bytesOfWord header ++ bytesOfWord v)
    (writes : ∀ v s, exec (i v) s = .next (s.writeConfig (store v)))
    (silent : ∀ v s, (store v s).out = s.out) : WritesUnderLock i header store := by
  refine fun v => ⟨bytes v, fun s unconfigured => ?_, fun s running => ?_⟩
  · rw [writes, State.writeConfig_unconfigured unconfigured, State.respond, silent]
  · rw [writes, State.writeConfig_running running]

/-- Settles O12: each of the seven stores through the lock. -/
theorem configurationWritesStoreUntilLocked : Obligations.ConfigurationWritesStoreUntilLocked := by
  unfold Obligations.ConfigurationWritesStoreUntilLocked
  and_intros <;> exact .of_writeConfig (fun _ => rfl) (fun _ _ => rfl) fun _ _ => rfl

/-- Settles O19: each of the 21 only answers. -/
theorem readOnlyWritesAreIgnored : Obligations.ReadOnlyWritesAreIgnored := by
  unfold Obligations.ReadOnlyWritesAreIgnored
  and_intros <;> exact .of_answer (fun _ => rfl) fun _ _ => rfl

/-! ## Reads -/

/-- A REG_READ that answers a value of the state as it is. -/
theorem ReadsRegister.verbatim {i : Instr} {header : Word} (value : State → Word) (bytes : encode i = bytesOfWord header)
    (answers : ∀ s, exec i s = .next (s.respond .ok (value s))) : ReadsRegister i header value :=
  .of_answer bytes answers fun _ => rfl

/-- Settles O13: each of the seven answers its register. -/
theorem configurationReadsAnswerTheRegister : Obligations.ConfigurationReadsAnswerTheRegister :=
  ⟨.verbatim State.rate rfl fun _ => rfl, .verbatim State.channels rfl fun _ => rfl,
    .verbatim State.format rfl fun _ => rfl, .verbatim State.windowLo rfl fun _ => rfl,
    .verbatim State.windowHi rfl fun _ => rfl, .verbatim State.observeLo rfl fun _ => rfl,
    .verbatim State.observeHi rfl fun _ => rfl⟩

theorem Code.number_lt (c : Code) : c.number < 5 := by
  cases c <;> decide

/-- A bit as the number the statements write for it. -/
theorem bool_toNat_eq_ite (b : Bool) : b.toNat = if b = true then 1 else 0 := Bool.cond_eq_ite b 1 0

theorem State.runBit_toNat (s : State) : s.runBit.toNat = if s.phase = .running then 1 else 0 := by
  simp only [State.runBit, beq_iff_eq, bool_toNat_eq_ite]

theorem State.rmodeBit_toNat (s : State) :
    s.rmodeBit.toNat = if s.phase = .running ∧ s.mode = .reset then 1 else 0 := by
  simp only [State.rmodeBit, Bool.and_eq_true, beq_iff_eq, bool_toNat_eq_ite]

/-- The fields of STATUS at their places (R102); LASTCODE fits its four bits. -/
theorem State.status_toNat (s : State) : s.status.toNat = s.runBit.toNat + 2 * s.rmodeBit.toNat + 16 * s.lastCode.number
    + 256 * s.lockFault.toNat + 512 * s.illegalFault.toNat := by
  have code := s.lastCode.number_lt
  simp only [State.status, append_toNat, BitVec.toNat_ofBool, BitVec.toNat_ofNat]
  omega

/-- Settles O14: the word is the sum of its fields, each a bit or LASTCODE. -/
theorem statusReadGathersItsBits : Obligations.StatusReadGathersItsBits := by
  refine .of_answer rfl (fun _ => rfl) fun s => ?_
  have number : s.status = BitVec.ofNat 32 s.status.toNat := by simp
  rw [number, State.status_toNat, State.runBit_toNat, State.rmodeBit_toNat, bool_toNat_eq_ite, bool_toNat_eq_ite]

/-- The pending length fits the word (R117). -/
theorem pendWord_fits {n : Nat} (h : n < 2 ^ 32) : pendWord n = BitVec.ofNat 32 n := if_pos h

/-- Settles O18: PEND answers the pending length as a word, whatever that word is. -/
theorem pendReadAnswersThePendingLength : Obligations.PendReadAnswersThePendingLength := by
  have answers (s : State) : exec .rdPend s = .next (s.respond .ok (pendWord s.pend.length)) := rfl
  refine ⟨rfl, fun s fits => ?_, fun s => ⟨_, answers s⟩⟩
  rw [answers, pendWord_fits fits, State.respond]

/-! ## CTRL -/

/-- Reset sets every piece of state (70_reset_and_hazards.md R203). -/
theorem State.performReset_allAtReset (s : State) : AllAtReset s.performReset where
  rate := rfl
  channels := rfl
  format := rfl
  windowLo := rfl
  windowHi := rfl
  observeLo := rfl
  observeHi := rfl
  phase := rfl
  stream := ⟨rfl, rfl, rfl, rfl, rfl, rfl, rfl, rfl, rfl, rfl, rfl, rfl, rfl⟩
  lastCode := rfl
  lockFault := rfl
  illegalFault := rfl
  result := rfl

/-- A response is no part of the block's state (10_state.md R34). -/
theorem AllAtReset.respond {s : State} (h : AllAtReset s) (code : Code) (data : Word) : AllAtReset (s.respond code data) :=
  { h with stream := { h.stream with } }

/-- The one meaning of `wr CTRL`, by its bit 0 (R104). -/
theorem exec_wrCtrl (v : Word) (s : State) :
    exec (.wrCtrl v) s = .next ((if v.getLsbD 0 then s.performReset else s).respond .ok 0) := rfl

/-- `wr CTRL` with bit 0 clear only answers (R104). -/
theorem exec_wrCtrl_ignored {v : Word} (clear : v.getLsbD 0 = false) (s : State) :
    exec (.wrCtrl v) s = .next (s.respond .ok 0) := by
  rw [exec_wrCtrl, if_neg (Bool.eq_false_iff.mp clear)]

/-- `wr CTRL` with bit 0 set resets, then answers (R104). -/
theorem exec_wrCtrl_softReset {v : Word} (set : v.getLsbD 0 = true) (s : State) :
    exec (.wrCtrl v) s = .next (s.performReset.respond .ok 0) := by
  rw [exec_wrCtrl, if_pos set]

/-- Settles O15: a write to CTRL by its bit 0; the reset keeps what was sent and what has come. -/
theorem resultAndControlTransactions : Obligations.ResultAndControlTransactions :=
  ⟨.verbatim State.result rfl fun _ => rfl, .verbatim (fun _ => 0) rfl fun _ => rfl, fun _ => rfl,
    fun _ s clear => exec_wrCtrl_ignored clear s,
    fun _ s set => ⟨_, exec_wrCtrl_softReset set s, s.performReset_allAtReset.respond .ok 0, rfl, rfl⟩⟩

/-! ## Reserved offsets -/

/-- Settles O20: the three single offsets, the range, and the unaligned offsets. -/
theorem reservedOffsetsIgnoreWritesAndReadZero : Obligations.ReservedOffsetsIgnoreWritesAndReadZero := by
  refine ⟨.of_answer (fun _ => rfl) fun _ _ => rfl, .verbatim (fun _ => 0) rfl fun _ => rfl,
    .of_answer (fun _ => rfl) fun _ _ => rfl, .verbatim (fun _ => 0) rfl fun _ => rfl,
    .of_answer (fun _ => rfl) fun _ _ => rfl, .verbatim (fun _ => 0) rfl fun _ => rfl,
    fun off _ _ => ⟨?_, ?_⟩, fun off rest unaligned => ⟨?_, ?_⟩⟩
  · exact .of_answer (encodeRegWrite_eq off) fun _ _ => rfl
  · exact .verbatim (fun _ => 0) (encodeRegRead_eq off) fun _ => rfl
  · exact decode_unaligned (regWriteHeader_toNat off) (.inl rfl) unaligned rest
  · exact decode_unaligned (regReadHeader_toNat off) (.inr rfl) unaligned rest

end Sys2Proof.Machine
end

-- Proofs: validation and the first WRITE (41_config_validator.md R129 to R136)
section
/-! PROOF. The validator computes with bit vectors what its rules say in numbers, and the derived constants of a configuration
that validates fit their registers. -/

namespace Sys2Proof.Machine

/-! ## The configuration in numbers -/

theorem State.wsize_eq_wordSizeNumber (s : State) : s.wsize = wordSizeNumber s := by
  rw [State.wsize, extract_toNat, pow_zero, Nat.div_one]
  rfl

theorem State.window_toNat (s : State) : s.window.toNat = windowNumber s := append_toNat s.windowHi s.windowLo

theorem State.observe_toNat (s : State) : s.observe.toNat = observeNumber s := append_toNat s.observeHi s.observeLo

theorem ticksPerSecond_eq : ticksPerSecond = 10 ^ 9 := rfl

theorem State.reportSamples_eq_intervalNumber (s : State) : s.reportSamples = intervalNumber s := by
  rw [State.reportSamples, State.observe_toNat, ticksPerSecond_eq, intervalNumber]

theorem State.windowSlots_eq_windowSlotsNumber (s : State) : s.windowSlots = windowSlotsNumber s := by
  rw [State.windowSlots, State.window_toNat, ticksPerSecond_eq, windowSlotsNumber]

/-- The mode compares the two durations as numbers (R134). -/
theorem State.selectedMode_circular_iff (s : State) :
    s.selectedMode = .circular ↔ windowNumber s ≠ observeNumber s := by
  rw [← State.window_toNat, ← State.observe_toNat, ne_eq, BitVec.toNat_inj, State.selectedMode]
  by_cases same : s.window = s.observe <;> simp [same]

/-! ## The checks -/

/-- The validator's first group of checks is R129. -/
theorem State.configBad_iff (s : State) : s.configBad = true ↔ BadConfiguration s := by
  simp only [State.configBad, BadConfiguration, State.wsize_eq_wordSizeNumber, State.reportSamples_eq_intervalNumber,
    Bool.or_eq_true, beq_iff_eq, bne_iff_ne, decide_eq_true_eq, ← BitVec.toNat_inj, BitVec.ofNat_eq_ofNat,
    BitVec.toNat_ofNat, Nat.zero_mod, or_assoc]

/-- The validator's second group of checks is R130. -/
theorem State.configUnsupported_iff (p : Config.Params) (s : State) :
    s.configUnsupported p = true ↔ ExceedsHardware p s := by
  simp only [State.configUnsupported, ExceedsHardware, State.reportSamples_eq_intervalNumber,
    State.windowSlots_eq_windowSlotsNumber, ← State.selectedMode_circular_iff, Bool.or_eq_true, Bool.and_eq_true,
    beq_iff_eq, decide_eq_true_eq, or_assoc]

section
variable {p : Config.Params} {s : State}

/-- The checks of R129 come first (R131). -/
theorem State.validate_of_bad (bad : BadConfiguration s) : s.validate p = .badParameters := by
  rw [State.validate, if_pos (s.configBad_iff.mpr bad)]

/-- The checks of R130 come second (R131). -/
theorem State.validate_of_exceeds (good : ¬ BadConfiguration s) (exceeds : ExceedsHardware p s) :
    s.validate p = .unsupportedConfig := by
  rw [State.validate, if_neg (mt s.configBad_iff.mp good), if_pos ((s.configUnsupported_iff p).mpr exceeds)]

/-- Where neither group holds, validation succeeds (R131). -/
theorem State.validate_of_good (good : ¬ BadConfiguration s) (fits : ¬ ExceedsHardware p s) : s.validate p = .ok := by
  rw [State.validate, if_neg (mt s.configBad_iff.mp good), if_neg (mt (s.configUnsupported_iff p).mp fits)]

end

/-! ## The WRITE -/

/-- A WRITE always has a next state, with the machine's parameters (42_sample_decoder.md R139). -/
theorem exec_write (payload : List Byte) (s : State) :
    exec (.write payload) s = .next (s.writeTransaction params payload) := rfl

/-- Validation that answers another code than OK fails the WRITE with that code (R132). -/
theorem State.writeTransaction_fails {p : Config.Params} {s : State} {code : Code} (unconfigured : s.phase = .unconfigured)
    (validation : s.validate p = code) (failure : code ≠ .ok) (payload : List Byte) :
    s.writeTransaction p payload = s.failValidation code := by
  rw [State.writeTransaction, unconfigured, validation]
  cases code with
  | ok => exact absurd rfl failure
  | badParameters | unsupportedConfig | configLocked | illegal => rfl

/-- Settles O22: validation answers the code of R131, and a failure only records and answers it. -/
theorem failedValidationDiscardsThePayload : Obligations.FailedValidationDiscardsThePayload := by
  intro s payload unconfigured
  refine ⟨fun bad => ?_, fun good exceeds => ?_⟩
  · rw [exec_write, State.writeTransaction_fails unconfigured (State.validate_of_bad bad) (by decide)]
    rfl
  · rw [exec_write, State.writeTransaction_fails unconfigured (State.validate_of_exceeds good exceeds) (by decide)]
    rfl

/-! ## The first WRITE that validates -/

/-- In RUNNING the WRITE decodes its payload (42_sample_decoder.md R139), so the first WRITE does what it would do once the
configuration is derived (R136). -/
theorem State.writeTransaction_configure {p : Config.Params} {s : State} (unconfigured : s.phase = .unconfigured)
    (valid : s.validate p = .ok) (payload : List Byte) :
    s.writeTransaction p payload = s.configure.writeTransaction p payload := by
  rw [State.writeTransaction_valid unconfigured valid, State.writeTransaction_running rfl]

/-- The window has the slots of R135: those of R130 where the durations differ, and none where they do not. -/
theorem Configured.N_toNat {p : Config.Params} {s : State} (h : Configured p s) :
    s.N.toNat = if windowNumber s ≠ observeNumber s then windowSlotsNumber s else 0 := by
  rw [h.slots, h.mode, ← State.windowSlots_eq_windowSlotsNumber]
  cases mode : s.selectedMode with
  | circular => rw [if_pos (s.selectedMode_circular_iff.mp mode)]
  | reset => rw [if_neg (mt s.selectedMode_circular_iff.mpr (by simp [mode]))]

/-- Settles O23: the derived state is the one named, and each derived constant is the number its rule gives. -/
theorem firstGoodWriteConfiguresAndRuns : Obligations.FirstGoodWriteConfiguresAndRuns := by
  intro s payload unconfigured good fits
  have valid := State.validate_of_good good fits
  have derived : Configured params s.configure :=
    State.configure_configured parametersKeepTheirRangesAndFixedPoints valid
  have wordSize : s.configure.wsize = wordSizeNumber s := s.wsize_eq_wordSizeNumber
  have period : s.configure.P.toNat + 1 = intervalNumber s := derived.period.trans s.reportSamples_eq_intervalNumber
  refine ⟨s.configure, rfl, s.selectedMode_circular_iff, ?_, ?_, ?_, Nat.eq_sub_of_add_eq period, derived.N_toNat, ?_, ?_⟩
  · rw [derived.wordBytes, wordSize]
  · rw [← wordSize]
    exact derived.frameBytes
  · rw [derived.wordMax, wordSize]
  · rw [exec_write, exec_write, State.writeTransaction_configure unconfigured valid]
  · rw [exec_write, State.writeTransaction_valid unconfigured valid]
    rfl

end Sys2Proof.Machine
end

-- Proofs: the samples of words (42_sample_decoder.md R143 to R148)
section
/-! PROOF. The raw value of a word is the sum of its bytes in either order, and fits the bits of the word; the sample it stands
for follows from that bound. -/

namespace Sys2Proof

/-- The first byte lowest (R62, R144). -/
theorem natLE_eq_sum (bytes : List Byte) :
    natLE bytes = ∑ k ∈ Finset.range bytes.length, (bytes.getD k 0).toNat * 2 ^ (8 * k) := by
  induction bytes with
  | nil => rfl
  | cons b bytes ih =>
    have shift (k : Nat) : 2 ^ (8 * (k + 1)) = 256 * 2 ^ (8 * k) := by rw [Nat.mul_succ, Nat.pow_add, Nat.mul_comm]
    rw [natLE_cons, ih, List.length_cons, Finset.sum_range_succ', Nat.add_comm, Finset.mul_sum]
    simp [shift, Nat.mul_left_comm]

/-- The first byte highest (R62, R144): the sum taken from the last byte backwards. -/
theorem natBE_eq_sum (bytes : List Byte) : natBE bytes =
    ∑ k ∈ Finset.range bytes.length, (bytes.getD k 0).toNat * 2 ^ (8 * (bytes.length - 1 - k)) := by
  rw [natBE, natLE_eq_sum, List.length_reverse, ← Finset.sum_range_reflect]
  refine Finset.sum_congr rfl fun k hk => ?_
  have inside := Finset.mem_range.mp hk
  have mirrored : bytes.reverse.getD (bytes.length - 1 - k) 0 = bytes.getD k 0 := by
    rw [List.getD_eq_getElem?_getD, List.getElem?_reverse (by omega), List.getD_eq_getElem?_getD]
    congr 2
    omega
  rw [mirrored]

end Sys2Proof

namespace Sys2Proof.Machine

/-! ## The raw value -/

/-- The raw value fits the bits of the word, in either byte order (R144). -/
theorem rawOfWord_lt (le : Bool) (word : List Byte) : rawOfWord le word < 2 ^ (8 * word.length) := by
  cases le with
  | true => exact natLE_lt word
  | false => exact natBE_lt word

/-- Settles O27: the two sums, and the bound of R144. -/
theorem rawValueFollowsTheByteOrder : Obligations.RawValueFollowsTheByteOrder :=
  fun word => ⟨natLE_eq_sum word, natBE_eq_sum word, rawOfWord_lt true word, rawOfWord_lt false word⟩

/-! ## The sample -/

/-- Unsigned: the raw value less the bias (R146). -/
theorem sampleOfRaw_unsigned (wsize raw : Nat) : sampleOfRaw wsize false raw = (raw : Int) - 2 ^ (wsize - 1) := rfl

/-- Signed, the top bit set: less the whole range (R145). -/
theorem sampleOfRaw_signed_of_le {wsize raw : Nat} (top : 2 ^ (wsize - 1) ≤ raw) :
    sampleOfRaw wsize true raw = (raw : Int) - 2 ^ wsize := if_pos top

/-- Signed, the top bit clear: the raw value itself (R145). -/
theorem sampleOfRaw_signed_of_lt {wsize raw : Nat} (low : raw < 2 ^ (wsize - 1)) : sampleOfRaw wsize true raw = raw :=
  if_neg (Nat.not_le.mpr low)

/-- The signed sample is the two's complement value of the bits (R145). -/
theorem sampleOfRaw_signed_eq_toInt {wsize raw : Nat} (positive : 0 < wsize) (fits : raw < 2 ^ wsize) :
    sampleOfRaw wsize true raw = (BitVec.ofNat wsize raw).toInt := by
  have twice := Nat.two_pow_pred_mul_two positive
  rw [BitVec.toInt_eq_toNat_cond, BitVec.toNat_ofNat, Nat.mod_eq_of_lt fits]
  by_cases top : 2 ^ (wsize - 1) ≤ raw
  · rw [sampleOfRaw_signed_of_le top, if_neg (by omega)]
    norm_cast
  · rw [sampleOfRaw_signed_of_lt (Nat.not_le.mp top), if_pos (by omega)]

/-- Settles O30: each encoding by its own equation. -/
theorem sampleValueFollowsTheEncoding : Obligations.SampleValueFollowsTheEncoding := by
  intro le word nonempty wsize raw
  have positive : 0 < wsize := Nat.mul_pos (by decide) (List.length_pos_iff.mpr nonempty)
  have fits : raw < 2 ^ wsize := rawOfWord_lt le word
  exact ⟨fits, Int.sub_add_cancel _ _, sampleOfRaw_signed_eq_toInt positive fits, sampleOfRaw_signed_of_le,
    sampleOfRaw_signed_of_lt⟩

/-! ## The range -/

/-- Either encoding of raw values that fit gives samples from the negative bias to one below the bias (R147). -/
theorem sampleOfRaw_range {wsize raw : Nat} (signed : Bool) (positive : 0 < wsize) (fits : raw < 2 ^ wsize) :
    -(2 ^ (wsize - 1)) ≤ sampleOfRaw wsize signed raw ∧ sampleOfRaw wsize signed raw ≤ 2 ^ (wsize - 1) - 1 := by
  cases signed with
  | true =>
    rw [sampleOfRaw_signed_eq_toInt positive fits]
    exact ⟨BitVec.le_toInt _, Int.le_sub_one_of_lt BitVec.toInt_lt⟩
  | false =>
    have twice := Nat.two_pow_pred_mul_two positive
    have bound : (raw : Int) < 2 ^ (wsize - 1) * 2 := by exact_mod_cast twice ▸ fits
    rw [sampleOfRaw_unsigned]
    omega

/-- The square of a sample is the largest a slot holds only for the most negative 56-bit code (R148). -/
theorem natAbs_sq_eq_two_pow_iff {words : Nat} {x : Int} (positive : 1 ≤ words) (most : words ≤ 7)
    (least : -(2 ^ (8 * words - 1)) ≤ x) (greatest : x ≤ 2 ^ (8 * words - 1) - 1) :
    x.natAbs ^ 2 = 2 ^ 110 ↔ words = 7 ∧ x = -(2 ^ 55) := by
  constructor
  · intro square
    have magnitude : x.natAbs = 2 ^ 55 := Nat.pow_left_injective two_ne_zero (square.trans (Nat.pow_mul 2 55 2))
    interval_cases words <;> omega
  · rintro ⟨_, rfl⟩
    rfl

/-- Settles O28: the range of the encoding, and a square that fits its 111 bits. -/
theorem samplesAndSquaresStayInRange : Obligations.SamplesAndSquaresStayInRange := by
  rintro words le signed word x positive most length rfl
  have fits : rawOfWord le word < 2 ^ (8 * words) := length ▸ rawOfWord_lt le word
  obtain ⟨least, greatest⟩ := sampleOfRaw_range signed (by omega : 0 < 8 * words) fits
  have magnitude := natAbs_decodeWord_le le signed (congrArg (8 * ·) length) (by omega : 0 < 8 * words)
  have exactly := squareOf_toNat (isSample_of_le magnitude (Nat.pow_le_pow_right two_pos (by omega)))
  have square : 2 ^ (2 * (8 * words) - 2) = (2 ^ (8 * words - 1)) ^ 2 := by
    rw [← Nat.pow_mul, Nat.sub_mul, Nat.one_mul, Nat.mul_comm]
  rw [exactly, square]
  refine ⟨least, greatest, ?_, Nat.pow_le_pow_left magnitude 2, natAbs_sq_eq_two_pow_iff positive most least greatest⟩
  rw [Nat.pow_two, Int.natAbs_mul_self]

end Sys2Proof.Machine
end

-- Proofs: the frames of a stream (42_sample_decoder.md R139 to R142)
section
/-! PROOF. After any bytes the state is the one the samples of their whole frames leave, with the bytes left over pending; one
byte later it is so again. -/

namespace Sys2Proof.Machine

/-! ## The words of a frame -/

/-- The samples of a frame are those of its consecutive slices, none of which reaches beyond its end (30_encoding.md R65,
R142). -/
theorem State.frameSamples_eq_slices {s : State} {frame : List Byte}
    (whole : frame.length = s.channels.toNat * s.wordBytes.toNat) :
    s.frameSamples frame = (List.range s.channels.toNat).map fun c =>
      decodeWord s.wsize s.le s.signed ((frame.drop (c * s.wordBytes.toNat)).take s.wordBytes.toNat) := by
  refine List.map_congr_left fun c hc => ?_
  have inside : c * s.wordBytes.toNat + s.wordBytes.toNat ≤ frame.length := by
    rw [whole, ← Nat.succ_mul]
    exact Nat.mul_le_mul_right _ (List.mem_range.mp hc)
  rw [frameWord_eq_slice inside]

/-- Settles O31: the two cases of a byte, and the slices of the frame it completes. -/
theorem frameWordsAreConsecutiveSlices : Obligations.FrameWordsAreConsecutiveSlices := by
  refine ⟨fun p s b => ⟨State.byteStep_waits p, State.byteStep_completes p⟩, fun p s frame whole => ?_⟩
  rw [State.decodeFrame, State.frameSamples_eq_slices whole, State.wsize_eq_wordSizeNumber]
  rfl

/-! ## The bytes left over -/

/-- The bytes of a stream after its last complete frame (R141). -/
def State.leftover (s : State) (bytes : List Byte) : List Byte :=
  bytes.drop (bytes.length / s.frameBytes.toNat * s.frameBytes.toNat)

theorem State.leftover_length (s : State) (bytes : List Byte) :
    (s.leftover bytes).length = bytes.length % s.frameBytes.toNat := by
  rw [State.leftover, List.length_drop, Nat.mod_eq_sub_div_mul]

/-- Fewer bytes than a frame are all left over. -/
theorem State.leftover_of_short {s : State} {bytes : List Byte} (short : bytes.length < s.frameBytes.toNat) :
    s.leftover bytes = bytes := by
  rw [State.leftover, Nat.div_eq_of_lt short, Nat.zero_mul, List.drop_zero]

/-- Fewer bytes than a frame hold no sample. -/
theorem State.streamSamples_of_short {s : State} {bytes : List Byte} (short : bytes.length < s.frameBytes.toNat) :
    s.streamSamples bytes = [] := by
  rw [State.streamSamples, Nat.div_eq_of_lt short]
  rfl

/-! ## One byte more -/

/-- One byte later, either a frame is complete or the last one has one byte more. -/
theorem frame_succ_cases {F : Nat} (nonempty : 0 < F) (n : Nat) :
    (n % F + 1 = F ∧ n + 1 = (n / F + 1) * F) ∨ (n % F + 1 < F ∧ (n + 1) / F = n / F) := by
  obtain ⟨P, rfl⟩ := Nat.exists_eq_add_of_le' nonempty
  rcases interval_succ_cases n P with ⟨last, _, complete⟩ | ⟨within, _, same⟩
  · exact .inl ⟨congrArg (· + 1) last, complete⟩
  · exact .inr ⟨Nat.succ_lt_succ within, same⟩

/-- The complete frames of a stream stay what they are when bytes are added. -/
theorem State.frame_append {s : State} {bytes : List Byte} {f : Nat} (complete : f < bytes.length / s.frameBytes.toNat)
    (more : List Byte) :
    ((bytes ++ more).drop (f * s.frameBytes.toNat)).take s.frameBytes.toNat
      = (bytes.drop (f * s.frameBytes.toNat)).take s.frameBytes.toNat := by
  have inside : f * s.frameBytes.toNat + s.frameBytes.toNat ≤ bytes.length := by
    rw [← Nat.succ_mul]
    exact (Nat.mul_le_mul_right _ complete).trans (Nat.div_mul_le_self _ _)
  rw [List.drop_append_of_le_length (by omega), List.take_append_of_le_length (by rw [List.length_drop]; omega)]

section
variable {s : State} {bytes : List Byte} (b : Byte)

/-- A byte that completes no frame is left over with the others. -/
theorem State.leftover_concat (same : (bytes.length + 1) / s.frameBytes.toNat = bytes.length / s.frameBytes.toNat) :
    s.leftover (bytes ++ [b]) = s.leftover bytes ++ [b] := by
  rw [State.leftover, List.length_append, List.length_singleton, same,
    List.drop_append_of_le_length (Nat.div_mul_le_self _ _), State.leftover]

/-- A byte that completes no frame adds no sample. -/
theorem State.streamSamples_concat (same : (bytes.length + 1) / s.frameBytes.toNat = bytes.length / s.frameBytes.toNat) :
    s.streamSamples (bytes ++ [b]) = s.streamSamples bytes := by
  rw [State.streamSamples, State.streamSamples, List.length_append, List.length_singleton, same]
  refine List.flatMap_congr fun f hf => ?_
  rw [State.frame_append (List.mem_range.mp hf)]

variable (complete : bytes.length + 1 = (bytes.length / s.frameBytes.toNat + 1) * s.frameBytes.toNat)
include complete

/-- A byte that completes a frame leaves none over. -/
theorem State.leftover_concat_complete : s.leftover (bytes ++ [b]) = [] := by
  refine List.eq_nil_of_length_eq_zero ?_
  rw [State.leftover_length, List.length_append, List.length_singleton, complete, Nat.mul_mod_left]

/-- A byte that completes a frame adds the samples of that frame: the bytes left over before, and the byte. -/
theorem State.streamSamples_concat_complete (nonempty : 0 < s.frameBytes.toNat) :
    s.streamSamples (bytes ++ [b]) = s.streamSamples bytes ++ s.frameSamples (s.leftover bytes ++ [b]) := by
  have frames : (bytes ++ [b]).length / s.frameBytes.toNat = bytes.length / s.frameBytes.toNat + 1 := by
    rw [List.length_append, List.length_singleton, complete, Nat.mul_div_cancel _ nonempty]
  have size : (s.leftover bytes ++ [b]).length = s.frameBytes.toNat := by
    have parts := Nat.div_add_mod' bytes.length s.frameBytes.toNat
    rw [Nat.succ_mul] at complete
    rw [List.length_append, State.leftover_length, List.length_singleton]
    omega
  have last : ((bytes ++ [b]).drop (bytes.length / s.frameBytes.toNat * s.frameBytes.toNat)).take s.frameBytes.toNat
      = s.leftover bytes ++ [b] := by
    rw [List.drop_append_of_le_length (Nat.div_mul_le_self _ _), ← State.leftover, List.take_of_length_le size.le]
  rw [State.streamSamples, frames, List.range_succ, List.flatMap_append, List.flatMap_singleton, last]
  congr 1
  refine List.flatMap_congr fun f hf => ?_
  rw [State.frame_append (List.mem_range.mp hf)]

end

/-! ## The state after any bytes -/

/-- The samples of a frame follow from the configuration, which samples do not change. -/
theorem SampleFrame.frameSamples {s t : State} (h : SampleFrame s t) (frame : List Byte) :
    t.frameSamples frame = s.frameSamples frame := by
  obtain ⟨_, _, _, _, _, _, _, rfl⟩ := h
  rfl

/-- The state with these bytes pending (10_state.md R22). -/
def State.withPend (s : State) (pend : List Byte) : State := { s with pend := pend }

theorem State.withPend_withPend (s : State) (pend later : List Byte) : (s.withPend pend).withPend later = s.withPend later :=
  rfl

theorem State.withPend_of_pend_eq {s : State} {pend : List Byte} (h : s.pend = pend) : s.withPend pend = s := by
  subst h
  rfl

/-- Samples add no pending byte. -/
theorem State.sampleSteps_withPend_nil (p : Config.Params) (s : State) (samples : List Int) :
    ((s.withPend []).sampleSteps p samples).withPend [] = (s.withPend []).sampleSteps p samples :=
  State.withPend_of_pend_eq ((s.withPend []).sampleSteps_frame p samples).pend

/-- What the bytes of a stream make of a state with none pending: their complete frames decoded, the rest pending (R141). -/
def State.afterStream (p : Config.Params) (s : State) (bytes : List Byte) : State :=
  ((s.withPend []).sampleSteps p (s.streamSamples bytes)).withPend (s.leftover bytes)

/-- Fewer bytes than a frame are pending, and nothing has happened yet. -/
theorem State.afterStream_pend (p : Config.Params) {s : State} (short : s.pend.length < s.frameBytes.toNat) :
    s.afterStream p s.pend = s := by
  rw [State.afterStream, State.streamSamples_of_short short, State.leftover_of_short short]
  rfl

section
variable (p : Config.Params) {s : State} {bytes : List Byte} (b : Byte)

/-- The length of the stream so far decides whether the next byte completes a frame. -/
theorem State.afterStream_completes_iff :
    ((s.afterStream p bytes).pend ++ [b]).length = (s.afterStream p bytes).frameBytes.toNat ↔
      bytes.length % s.frameBytes.toNat + 1 = s.frameBytes.toNat := by
  have frame := (s.withPend []).sampleSteps_frame p (s.streamSamples bytes)
  have frameBytes : (s.afterStream p bytes).frameBytes = s.frameBytes := frame.frameBytes
  have pend : (s.afterStream p bytes).pend = s.leftover bytes := rfl
  rw [frameBytes, pend, List.length_append, State.leftover_length, List.length_singleton]

/-- A byte that completes no frame joins the pending ones (R140). -/
theorem State.afterStream_byteStep_waits (within : bytes.length % s.frameBytes.toNat + 1 ≠ s.frameBytes.toNat)
    (same : (bytes.length + 1) / s.frameBytes.toNat = bytes.length / s.frameBytes.toNat) :
    (s.afterStream p bytes).byteStep p b = s.afterStream p (bytes ++ [b]) := by
  rw [State.byteStep_waits p (mt (State.afterStream_completes_iff p b).mp within), State.afterStream, State.afterStream,
    State.streamSamples_concat b same, State.leftover_concat b same]
  rfl

/-- A byte that completes a frame has the samples of that frame follow those before (R140, R142). -/
theorem State.afterStream_byteStep_completes (nonempty : 0 < s.frameBytes.toNat)
    (last : bytes.length % s.frameBytes.toNat + 1 = s.frameBytes.toNat)
    (complete : bytes.length + 1 = (bytes.length / s.frameBytes.toNat + 1) * s.frameBytes.toNat) :
    (s.afterStream p bytes).byteStep p b = s.afterStream p (bytes ++ [b]) := by
  have frame := (s.withPend []).sampleSteps_frame p (s.streamSamples bytes)
  calc (s.afterStream p bytes).byteStep p b
    _ = ((s.afterStream p bytes).withPend []).decodeFrame p (s.leftover bytes ++ [b]) :=
        State.byteStep_completes p ((State.afterStream_completes_iff p b).mpr last)
    _ = ((s.withPend []).sampleSteps p (s.streamSamples bytes)).decodeFrame p (s.leftover bytes ++ [b]) := by
        rw [State.afterStream, State.withPend_withPend, State.sampleSteps_withPend_nil]
    _ = (s.withPend []).sampleSteps p (s.streamSamples bytes ++ s.frameSamples (s.leftover bytes ++ [b])) := by
        rw [State.decodeFrame, frame.frameSamples, State.sampleSteps, State.sampleSteps, List.foldl_append]
        rfl
    _ = s.afterStream p (bytes ++ [b]) := by
        rw [← State.streamSamples_concat_complete b complete nonempty, State.afterStream,
          State.leftover_concat_complete b complete, State.sampleSteps_withPend_nil]

/-- A byte step continues the stream (R140). -/
theorem State.afterStream_byteStep (nonempty : 0 < s.frameBytes.toNat) :
    (s.afterStream p bytes).byteStep p b = s.afterStream p (bytes ++ [b]) := by
  rcases frame_succ_cases nonempty bytes.length with ⟨last, complete⟩ | ⟨within, same⟩
  · exact State.afterStream_byteStep_completes p b nonempty last complete
  · exact State.afterStream_byteStep_waits p b within.ne same

end

/-- A payload continues the stream of the pending bytes, byte by byte. -/
theorem State.decodePayload_eq_afterStream (p : Config.Params) {s : State}
    (short : s.pend.length < s.frameBytes.toNat) (payload : List Byte) :
    s.decodePayload p payload = s.afterStream p (s.pend ++ payload) := by
  induction payload using List.reverseRecOn with
  | nil => rw [List.append_nil, State.afterStream_pend p short, State.decodePayload, List.foldl_nil]
  | append_singleton payload b ih =>
    rw [State.decodePayload, List.foldl_concat, ← State.decodePayload, ih,
      State.afterStream_byteStep p b (Nat.zero_lt_of_lt short), List.append_assoc]

/-- Settles O25: the bytes one by one are the stream of the pending bytes followed by the payload. -/
theorem payloadDecodesByWholeFrames : Obligations.PayloadDecodesByWholeFrames := by
  intro p s payload short
  have stream := State.decodePayload_eq_afterStream p short payload
  exact ⟨rfl, stream, by rw [stream]; exact s.leftover_length _⟩

/-! ## The WRITE in RUNNING -/

/-- A payload leaves what the host has sent and the count of resets. -/
theorem State.acceptPayload_input (p : Config.Params) (s : State) (payload : List Byte) :
    (s.acceptPayload p payload).input = s.input ∧ (s.acceptPayload p payload).bufEpoch = s.bufEpoch := by
  obtain ⟨_, _, _, _, _, _, _, _, _, _, _, _, kept⟩ := s.acceptPayload_keepsConfiguration p payload
  rw [kept]
  exact ⟨rfl, rfl⟩

/-- Settles O24: the byte steps send the events, and the record and the response are all that follows them. -/
theorem runningWriteAcceptsEveryPayload : Obligations.RunningWriteAcceptsEveryPayload := by
  intro s payload running
  obtain ⟨events, sent⟩ := SendsEvents.foldl (State.byteStep_sendsEvents params) s payload
  obtain ⟨config, derived, phase⟩ := (s.acceptPayload_keepsConfiguration params payload).same
  obtain ⟨_, lockFault, illegalFault⟩ := s.acceptPayload_frame params payload
  obtain ⟨input, bufEpoch⟩ := s.acceptPayload_input params payload
  refine ⟨s.acceptPayload params payload, events, ?_, rfl, sent.out, ?_, sent.onPort, rfl, rfl, phase.trans running, config,
    derived, lockFault, illegalFault, input, bufEpoch⟩
  · rw [exec_write, State.writeTransaction_running running]
  · rw [← sent.out]
    rfl

/-! ## The first WRITE -/

/-- The derived configuration starts the stream (41_config_validator.md R136). -/
theorem State.configure_streamStart (s : State) : StreamStart s.configure := ⟨rfl, rfl, rfl, rfl, rfl, rfl⟩

section
variable {p : Config.Params} {s : State} (h : Configured p s)
include h

/-- The report interval fits 64 bits (41_config_validator.md R130). -/
theorem Configured.interval_lt : s.P.toNat + 1 < 2 ^ 64 := by
  obtain ⟨_, _, _, _, _, _, interval, _⟩ := State.valid_facts h.valid
  rw [h.period]
  omega

/-- A circular window has a slot (R130). -/
theorem Configured.window_pos (circular : s.mode = .circular) : 0 < s.N.toNat := by
  obtain ⟨_, _, _, _, _, _, _, _, window⟩ := State.valid_facts h.valid
  rw [h.slots, circular]
  exact (window (h.mode.symm.trans circular)).1

/-- Every sample of a stream is one some format can give (R147). -/
theorem Configured.isSample_of_mem_streamSamples {bytes : List Byte} {x : Int} (hx : x ∈ s.streamSamples bytes) :
    IsSample x := by
  obtain ⟨f, _, inFrame⟩ := List.mem_flatMap.mp hx
  exact isSample_of_le (h.natAbs_frameSamples_le inFrame) h.wordMax_le

/-- The events of a stream from its start are the reference ones of its samples (45_report_scheduler.md R170, R181). -/
theorem Configured.afterStream_out (start : StreamStart s) (bytes : List Byte) :
    (s.afterStream p bytes).out = s.out ++ referenceEvents p s (s.streamSamples bytes) := by
  have history := start.sampleSteps_holdsHistory p h.interval_lt h.window_pos
    fun _ hx => h.isSample_of_mem_streamSamples (bytes := bytes) hx
  rw [← (s.sampleSteps_frame p (s.streamSamples bytes)).referenceEvents, ← history.sent, State.afterStream,
    State.withPend_of_pend_eq start.pend]
  rfl

end

/-- Settles O43: the payload is the whole stream so far, and its events are the reference ones. -/
theorem firstWriteReportsExactlyTheReference : Obligations.FirstWriteReportsExactlyTheReference := by
  intro s payload unconfigured valid
  have configured := State.configure_configured parametersKeepTheirRangesAndFixedPoints valid
  have stream := State.decodePayload_eq_afterStream params (s := s.configure) configured.frameBytes_pos payload
  refine ⟨s.configure.acceptPayload params payload, ?_, ?_⟩
  · rw [exec_write, State.writeTransaction_valid unconfigured valid]
  · have events := configured.afterStream_out s.configure_streamStart payload
    rw [State.acceptPayload, State.respond_out, stream]
    exact congrArg (· ++ _) events

end Sys2Proof.Machine
end

-- Proofs: the rolling window (43_rolling_window.md)
section
/-! PROOF. What one fold of either mode does, and what the samples of a stream make of the window and of the events sent. -/

namespace Sys2Proof.Machine

/-! ## One fold -/

/-- A fold of either mode changes the buffer, the cursor, the fill count and the sum, and nothing else (R154, R158). -/
theorem State.windowFold_eq_fields (s : State) (q : Square) : s.windowFold q = { s with
    buf := (s.windowFold q).buf, pos := (s.windowFold q).pos
    fill := (s.windowFold q).fill, sum := (s.windowFold q).sum } := by
  obtain ⟨_, _, _, _, fold⟩ := s.windowFold_frame q
  rw [fold]

section
variable {s : State} (reset : s.mode = .reset)
include reset

/-- The RESET fold changes the sum and the fill count only: it touches no slot and leaves the cursor (R158). -/
theorem State.windowFold_reset_eq_fields (q : Square) : s.windowFold q = { s with
    sum := (s.windowFold q).sum, fill := (s.windowFold q).fill } := by
  rw [State.windowFold_of_reset reset, State.windowFoldReset_eq]

/-- The RESET fold adds the square, whatever the fill count is (R158). -/
theorem State.windowFold_reset_sum {q : Square} (fits : s.sum.toNat + q.toNat < 2 ^ 176) :
    (s.windowFold q).sum.toNat = s.sum.toNat + q.toNat := by
  rw [State.windowFold_of_reset reset, State.windowFoldReset_eq, BitVec.toNat_add, toNat_setWidth_square,
    Nat.mod_eq_of_lt fits]

/-- The RESET fold counts the sample, whatever the sum is (R158). -/
theorem State.windowFold_reset_fill (count : s.fill.toNat + 1 < 2 ^ 64) (q : Square) :
    (s.windowFold q).fill.toNat = s.fill.toNat + 1 := by
  rw [State.windowFold_of_reset reset, State.windowFoldReset_eq]
  exact BitVec.toNat_add_of_lt count

end

/-- Settles O32: the slots, the cursor, the fill count and the sum by their own lemmas, in each phase of the window. -/
theorem circularFoldReplacesTheSlotAtTheCursor : Obligations.CircularFoldReplacesTheSlotAtTheCursor := by
  intro s q circular _ cursor
  have fill := State.windowFold_fill circular q
  refine ⟨State.windowFold_readSlot_pos circular q, fun slot other => State.windowFold_readSlot_other circular other q,
    State.windowFold_pos circular (Nat.zero_lt_of_lt cursor) q, fun growing => ⟨?_, ?_⟩, fun full => ⟨?_, ?_⟩,
    s.windowFold_eq_fields q⟩
  · rw [fill, if_pos growing]
  · exact State.windowFold_sum_growth circular growing
  · rw [full, if_neg (lt_irrefl _), ← full] at fill
    exact BitVec.eq_of_toNat_eq fill
  · exact State.windowFold_sum_steady circular (Nat.le_of_eq (congrArg BitVec.toNat full.symm))

/-- Settles O33: the RESET fold by its two totals, and the peak as a number. -/
theorem resetFoldAndPeakFoldAccumulate : Obligations.ResetFoldAndPeakFoldAccumulate := by
  refine ⟨fun s q reset => ⟨_, rfl, ?_, ?_, ?_⟩, fun s x inRange => ⟨_, rfl, rfl, s.peakFold_peak_toNat inRange⟩⟩
  · exact State.windowFold_reset_eq_fields reset q
  · exact State.windowFold_reset_sum reset
  · exact fun count => State.windowFold_reset_fill reset count q

/-! ## Streams of samples -/

/-- The window of CIRCULAR mode with the samples it slides over (10_state.md R32 item 2), whatever the report interval is. -/
structure SlidesOver (s : State) (samples : List Int) : Prop where
  circular : s.mode = .circular
  inRange : ∀ x ∈ samples, IsSample x
  window : HoldsWindow s samples

/-- At the start of RUNNING the window slides over no sample, and the buffer may hold anything (41_config_validator.md R136). -/
theorem StreamStart.slidesOver {s : State} (start : StreamStart s) (circular : s.mode = .circular) (window : 0 < s.N.toNat) :
    SlidesOver s [] :=
  ⟨circular, by simp, window, by simp [start.fill], by simp [start.pos], by simp [start.sum], by simp⟩

/-- The window slides over one sample more (R154 to R157). -/
theorem SlidesOver.sampleStep {s : State} {samples : List Int} (h : SlidesOver s samples) (p : Config.Params) {x : Int}
    (hx : IsSample x) : SlidesOver (s.sampleStep p x) (samples ++ [x]) where
  circular := (s.sampleStep_frame p x).mode.trans h.circular
  inRange := by simpa [or_imp, forall_and] using ⟨h.inRange, hx⟩
  window := h.window.sampleStep h.circular h.inRange hx p

/-- Settles O35: the window slides from the start of RUNNING over every sample. -/
theorem slidingWindowSumIsTheRecentSquares : Obligations.SlidingWindowSumIsTheRecentSquares := by
  intro p s samples circular window start inRange
  have slides : SlidesOver (s.sampleSteps p samples) samples :=
    State.sampleSteps_keeps p (start.slidesOver circular window) (fun _ _ _ h hx => h.sampleStep p hx) samples inRange
  obtain ⟨_, fill, pos, sum, _⟩ := slides.window
  rw [(s.sampleSteps_frame p samples).N] at fill pos sum
  exact ⟨sum, fill, pos⟩

/-- Settles O38: the relation with the history says what has been sent, and samples leave what the reference reads. -/
theorem reportStreamIsTheReference : Obligations.ReportStreamIsTheReference := by
  intro p s samples start period window inRange
  rw [(start.sampleSteps_holdsHistory p period window inRange).sent, (s.sampleSteps_frame p samples).referenceEvents]

/-! ## The evicted slot -/

/-- Settles O55: the cursor of a full window stands at one of the slots written since the last reset. -/
theorem theEvictedSlotHasBeenWritten : Obligations.TheEvictedSlotHasBeenWritten := by
  intro s h running circular full
  have written := (h.running running).circular circular
  exact written.evicted (Nat.le_of_eq (congrArg BitVec.toNat full.symm))

end Sys2Proof.Machine
end

-- Proofs: the report scheduler (45_report_scheduler.md R168 to R173, R182)
section
/-! PROOF. One step of the schedule in each of its cases, and why no event precedes the first boundary: a countdown of `n` is
above zero at each of the next `n` samples. -/

namespace Sys2Proof.Machine

/-- Above zero the countdown as a number decreases by one (R168). -/
theorem State.schedule_countdown_toNat (p : Config.Params) {s : State} (running : s.countdown.toNat ≠ 0) :
    (s.schedule p).countdown.toNat = s.countdown.toNat - 1 := by
  have positive : 1#64 ≤ s.countdown := Nat.one_le_iff_ne_zero.mpr running
  rw [State.schedule_pos p (mt s.countdown_eq_zero_iff.mp running)]
  exact BitVec.toNat_sub_of_le positive

/-- Settles O34: above zero the schedule counts down; at zero it is a report, field by field, and the reload. -/
theorem scheduleReportsAtZero : Obligations.ScheduleReportsAtZero := by
  refine fun p s => ⟨fun running => ⟨_, rfl, ?_, State.schedule_countdown_toNat p running⟩, fun due => ?_⟩
  · rw [State.schedule_pos p (mt s.countdown_eq_zero_iff.mp running)]
  · rw [State.schedule_zero p (s.countdown_eq_zero_iff.mpr due), State.report_eq, State.reportEvents, ← List.append_assoc]
    rfl

/-- Samples no more than the countdown send nothing: each finds it above zero (R168, R182). -/
theorem State.sampleSteps_out_of_length_le (p : Config.Params) {s : State} {samples : List Int}
    (early : samples.length ≤ s.countdown.toNat) : (s.sampleSteps p samples).out = s.out := by
  unfold State.sampleSteps
  induction samples generalizing s with
  | nil => rfl
  | cons x samples ih =>
    rw [List.length_cons] at early
    have running : ¬ s.countdown.toNat = 0 := by omega
    have stillEarly : samples.length ≤ (s.sampleStep p x).countdown.toNat := by
      rw [State.sampleStep_countdown_toNat, if_neg running]
      omega
    rw [List.foldl_cons, ih stillEarly, State.sampleStep_out, if_neg (mt s.countdown_eq_zero_iff.mp running), List.append_nil]

/-- Settles O41: RUNNING starts with a countdown of `P`. -/
theorem noReportBeforeTheFirstBoundary : Obligations.NoReportBeforeTheFirstBoundary := by
  intro p s samples start early
  exact State.sampleSteps_out_of_length_le p (by rw [start.countdown]; omega)

end Sys2Proof.Machine
end

-- Proofs: the dB values of the events (45_report_scheduler.md R174 to R178)
section
/-! PROOF. The dB value of an amplitude ratio from 0 to 1, the two ratios of a report, and the integers of the events that a
sample step sends: under the invariant their ratios lie from 0 to 1, where R177 applies. -/

namespace Sys2Proof.Machine

/-! ## Amplitude ratios in dB -/

/-- The dB value of an amplitude ratio, with the factor 10 of R176: −∞ for the ratio 0. -/
noncomputable def amplitudeDb (ratio : ℝ) : EReal :=
  if ratio = 0 then ⊥ else ((10 * Real.logb 10 ratio : ℝ) : EReal)

@[simp] theorem amplitudeDb_zero : amplitudeDb 0 = ⊥ := if_pos rfl

theorem amplitudeDb_of_ne_zero {ratio : ℝ} (h : ratio ≠ 0) :
    amplitudeDb ratio = ((10 * Real.logb 10 ratio : ℝ) : EReal) := if_neg h

theorem amplitudeDb_eq_bot_iff (ratio : ℝ) : amplitudeDb ratio = ⊥ ↔ ratio = 0 := by
  by_cases h : ratio = 0
  · simp [h]
  · rw [amplitudeDb_of_ne_zero h]
    exact iff_of_false (EReal.coe_ne_bot _) h

/-- No ratio up to full scale has a dB value above 0. -/
theorem amplitudeDb_nonpos {ratio : ℝ} (nonneg : 0 ≤ ratio) (le_one : ratio ≤ 1) : amplitudeDb ratio ≤ 0 := by
  by_cases h : ratio = 0
  · simp [h]
  · have log := Real.logb_nonpos (b := 10) (by norm_num) nonneg le_one
    rw [amplitudeDb_of_ne_zero h, EReal.coe_nonpos]
    linarith

/-- The dB value is 0 at full scale only. -/
theorem amplitudeDb_eq_zero_iff {ratio : ℝ} (nonneg : 0 ≤ ratio) : amplitudeDb ratio = 0 ↔ ratio = 1 := by
  rcases nonneg.eq_or_lt with rfl | positive
  · simp
  · have log : Real.logb 10 ratio = 0 ↔ ratio = 1 := by
      rw [← Real.logb_one (b := 10), (Real.logb_injOn_pos (by norm_num)).eq_iff positive (Set.mem_Ioi.mpr one_pos)]
    rw [amplitudeDb_of_ne_zero positive.ne', EReal.coe_eq_zero, mul_eq_zero_iff_left (by norm_num), log]

/-! ## The peak ratio -/

/-- `peak / wordMax` (R175). -/
noncomputable def peakRatio (peak wsize : Nat) : ℝ := (peak : ℝ) / 2 ^ (wsize - 1)

theorem peakRatio_nonneg (peak wsize : Nat) : 0 ≤ peakRatio peak wsize := by
  unfold peakRatio
  positivity

@[simp] theorem peakRatio_eq_zero_iff (peak wsize : Nat) : peakRatio peak wsize = 0 ↔ peak = 0 := by
  simp [peakRatio]

theorem peakRatio_le_one {peak wsize : Nat} (h : peak ≤ 2 ^ (wsize - 1)) : peakRatio peak wsize ≤ 1 :=
  div_le_one_of_le₀ (by exact_mod_cast h) (by positivity)

theorem peakRatio_eq_one_iff (peak wsize : Nat) : peakRatio peak wsize = 1 ↔ peak = 2 ^ (wsize - 1) := by
  rw [peakRatio, div_eq_one_iff_eq (by positivity)]
  norm_cast

/-- The peak dB value is that of the peak ratio (R175). -/
theorem isPeakDb_amplitudeDb (peak wsize : Nat) : IsPeakDb peak wsize (amplitudeDb (peakRatio peak wsize)) := by
  rcases Nat.eq_zero_or_pos peak with zero | positive
  · exact .inl ⟨zero, by rw [amplitudeDb_eq_bot_iff, peakRatio_eq_zero_iff, zero]⟩
  · exact .inr ⟨positive, amplitudeDb_of_ne_zero (mt (peakRatio_eq_zero_iff peak wsize).mp positive.ne')⟩

/-! ## The RMS ratio -/

/-- `sqrt(sum / div) / wordMax` (R174). -/
noncomputable def rmsRatio (sum div wsize : Nat) : ℝ := Real.sqrt ((sum : ℝ) / div) / 2 ^ (wsize - 1)

/-- The RMS ratio is the root of the share of the sum in that of `div` full-scale squares. -/
theorem rmsRatio_eq_sqrt (sum div wsize : Nat) :
    rmsRatio sum div wsize = Real.sqrt ((sum : ℝ) / (div * 4 ^ (wsize - 1) : Nat)) := by
  have root : Real.sqrt (4 ^ (wsize - 1)) = 2 ^ (wsize - 1) := by
    rw [show (4 : ℝ) = 2 ^ 2 by norm_num, pow_right_comm, Real.sqrt_sq (by positivity)]
  rw [rmsRatio, ← root, ← Real.sqrt_div' _ (by positivity), div_div]
  push_cast
  rfl

theorem rmsRatio_nonneg (sum div wsize : Nat) : 0 ≤ rmsRatio sum div wsize := by
  unfold rmsRatio
  positivity

theorem rmsRatio_le_one {sum div wsize : Nat} (h : sum ≤ div * 4 ^ (wsize - 1)) : rmsRatio sum div wsize ≤ 1 := by
  rw [rmsRatio_eq_sqrt, Real.sqrt_le_left one_pos.le, one_pow]
  exact div_le_one_of_le₀ (by exact_mod_cast h) (by positivity)

section
variable {div : Nat} (counted : 0 < div) (sum wsize : Nat)
include counted

theorem rmsRatio_eq_zero_iff : rmsRatio sum div wsize = 0 ↔ sum = 0 := by
  rw [rmsRatio_eq_sqrt, Real.sqrt_eq_zero (by positivity), div_eq_zero_iff, Nat.cast_eq_zero, Nat.cast_eq_zero]
  exact or_iff_left (by positivity)

theorem rmsRatio_eq_one_iff : rmsRatio sum div wsize = 1 ↔ sum = div * 4 ^ (wsize - 1) := by
  rw [rmsRatio_eq_sqrt, Real.sqrt_eq_one, div_eq_one_iff_eq (by positivity), Nat.cast_inj]

/-- The RMS dB value is that of the RMS ratio (R174). -/
theorem isRmsDb_amplitudeDb : IsRmsDb sum div wsize (amplitudeDb (rmsRatio sum div wsize)) := by
  rcases Nat.eq_zero_or_pos sum with zero | positive
  · exact .inl ⟨zero, by rw [amplitudeDb_eq_bot_iff, rmsRatio_eq_zero_iff counted, zero]⟩
  · exact .inr ⟨positive, amplitudeDb_of_ne_zero (mt (rmsRatio_eq_zero_iff counted sum wsize).mp positive.ne')⟩

/-- The two formulas of R174 are the same: the root halves the factor, and full scale is a power of two. -/
theorem ten_logb_rmsRatio {sum : Nat} (positive : 0 < sum) : 10 * Real.logb 10 (rmsRatio sum div wsize) =
    5 * Real.logb 10 ((sum : ℝ) / div) - 10 * ((wsize - 1 : Nat) : ℝ) * Real.logb 10 2 := by
  have mean : (0 : ℝ) < sum / div := by positivity
  have half : Real.logb 10 (Real.sqrt ((sum : ℝ) / div)) = Real.logb 10 ((sum : ℝ) / div) / 2 := by
    rw [Real.logb, Real.log_sqrt mean.le, Real.logb, div_right_comm]
  rw [rmsRatio, Real.logb_div (Real.sqrt_pos.mpr mean).ne' (by positivity), Real.logb_pow, half]
  ring

end

/-! ## The events of a sample step -/

theorem State.rmsEvent_mem_reportEvents_iff (p : Config.Params) (s : State) (db : Double) (div : Wide) (sum : Sum) :
    .rmsEvent db div sum ∈ s.reportEvents p ↔
      s.rmsEn = true ∧ db = p.dbfnRms s.sum.toNat s.fill.toNat s.wsize ∧ div = s.fill ∧ sum = s.sum := by
  rw [State.reportEvents, List.mem_append]
  split <;> split <;> simp_all

theorem State.peakEvent_mem_reportEvents_iff (p : Config.Params) (s : State) (db : Double) (peak : Wide) :
    .peakEvent db peak ∈ s.reportEvents p ↔
      s.peakEn = true ∧ db = p.dbfnPeak s.peak.toNat s.wsize ∧ peak = s.peak := by
  rw [State.reportEvents, List.mem_append]
  split <;> split <;> simp_all

/-- The window fold and the peak fold of a sample, after which the schedule runs (42_sample_decoder.md R152). -/
def State.foldSample (s : State) (x : Int) : State := (s.windowFold (squareOf x)).peakFold x

theorem State.sampleStep_eq_schedule (p : Config.Params) (s : State) (x : Int) :
    s.sampleStep p x = (s.foldSample x).schedule p := rfl

theorem SampleFrame.wsize {s t : State} (h : SampleFrame s t) : t.wsize = s.wsize := by
  obtain ⟨_, _, _, _, _, _, _, rfl⟩ := h
  rfl

@[simp] theorem State.foldSample_wsize (s : State) (x : Int) : (s.foldSample x).wsize = s.wsize :=
  ((s.windowFold_sampleFrame _).trans (State.peakFold_sampleFrame _ x)).wsize

@[simp] theorem State.foldSample_out (s : State) (x : Int) : (s.foldSample x).out = s.out := by
  obtain ⟨_, _, _, _, fold⟩ := s.windowFold_frame (squareOf x)
  rw [State.foldSample, fold]
  rfl

/-- The events a sample step sends are of a report on the folded sample (R168, R178). -/
theorem State.mem_reportEvents_of_sampleStep {p : Config.Params} {s : State} {x : Int} {events : List Output} {e : Output}
    (sent : (s.sampleStep p x).out = s.out ++ events) (he : e ∈ events) : e ∈ (s.foldSample x).reportEvents p := by
  rw [State.sampleStep_eq_schedule, State.schedule_out, State.foldSample_out] at sent
  rw [← List.append_cancel_left sent] at he
  split at he
  · exact he
  · exact absurd he List.not_mem_nil

/-! ## The integers of a report -/

theorem Inv.streamInv {p : Config.Params} {s : State} (h : Inv p s) (running : s.phase = .running) : StreamInv p s :=
  (runningInv_iff.mp (h.running running)).1

section
variable {p : Config.Params} {s : State} {x : Int} (h : StreamInv p s)
include h

/-- In RESET mode the fill count has room for the sample that completes an interval (41_config_validator.md R130). -/
theorem StreamInv.interval_room (reset : s.mode = .reset) : s.fill.toNat + 1 < 2 ^ 64 := by
  obtain ⟨_, _, _, _, _, _, fits, _⟩ := State.valid_facts h.configured.valid
  have period := h.configured.period
  have mirror := (h.reset reset).fill
  omega

variable (magnitude : x.natAbs ≤ s.wordMax.toNat)
include magnitude

/-- A fold leaves at least one sample counted, and a sum of at most so many full-scale squares (43_rolling_window.md R159,
R162). -/
theorem StreamInv.windowFold_totals : 0 < (s.windowFold (squareOf x)).fill.toNat ∧
    (s.windowFold (squareOf x)).sum.toNat ≤ (s.windowFold (squareOf x)).fill.toNat * s.wordMax.toNat ^ 2 := by
  have word := h.configured.wordMax_le
  cases mode : s.mode with
  | circular =>
    have window := h.circular mode
    have nonempty := window.pos_lt
    have bound := (window.windowFold mode magnitude word).sum_le
    rw [(s.windowFold_sampleFrame _).wordMax] at bound
    refine ⟨?_, bound⟩
    rw [State.windowFold_fill mode]
    split <;> omega
  | reset =>
    have bound := (h.reset mode).sum
    have square := squareOf_toNat (isSample_of_le magnitude word)
    have fits := sum_fits bound s.fill.isLt word magnitude
    obtain ⟨fill, sum⟩ := State.windowFold_reset mode (h.interval_room mode) (by rwa [square])
    rw [fill, sum, square, Nat.add_mul, Nat.one_mul]
    exact ⟨Nat.add_one_pos _, Nat.add_le_add bound (Nat.pow_le_pow_left magnitude 2)⟩

/-- The sum and the divisor of an RMS event lie in the domain of R177. -/
theorem StreamInv.foldSample_totals : 0 < (s.foldSample x).fill.toNat ∧
    (s.foldSample x).sum.toNat ≤ (s.foldSample x).fill.toNat * 4 ^ (s.wsize - 1) := by
  have fullScale : s.wordMax.toNat ^ 2 = 4 ^ (s.wsize - 1) := by
    rw [h.configured.wordMax, ← Nat.pow_mul', Nat.pow_mul]
  rw [← fullScale]
  exact h.windowFold_totals magnitude

/-- The peak of a PEAK event lies in the domain of R177 (44_peak_tracker.md R164). -/
theorem StreamInv.foldSample_peak_le : (s.foldSample x).peak.toNat ≤ 2 ^ (s.wsize - 1) := by
  have peak := h.peak
  obtain ⟨_, _, _, _, fold⟩ := s.windowFold_frame (squareOf x)
  rw [State.foldSample, State.peakFold_peak_toNat _ (isSample_of_le magnitude h.configured.wordMax_le), fold,
    ← h.configured.wordMax]
  exact max_le peak magnitude

end

/-! ## The DB fields -/

/-- Settles O45: the event holds the totals of the folded sample, whose RMS ratio lies from 0 to 1. -/
theorem rmsEventDbIsTheNearestDouble : Obligations.RmsEventDbIsTheNearestDouble := by
  intro p s x events db div sum reference inv running magnitude sent event w
  obtain ⟨counted, bound⟩ := (inv.streamInv running).foldSample_totals magnitude
  obtain ⟨_, rfl, rfl, rfl⟩ :=
    (State.rmsEvent_mem_reportEvents_iff ..).mp (State.mem_reportEvents_of_sampleStep sent event)
  rw [State.wsize_eq_wordSizeNumber] at bound
  rw [State.foldSample_wsize, State.wsize_eq_wordSizeNumber]
  have nonneg := rmsRatio_nonneg (s.foldSample x).sum.toNat (s.foldSample x).fill.toNat w
  have zero := rmsRatio_eq_zero_iff counted (s.foldSample x).sum.toNat w
  refine ⟨counted, bound, _, reference.1 _ _ w _ counted bound (isRmsDb_amplitudeDb counted _ w), ?_, ?_,
    amplitudeDb_nonpos nonneg (rmsRatio_le_one bound), ?_⟩
  · exact fun silent => (amplitudeDb_eq_bot_iff _).mpr (zero.mpr silent)
  · intro positive
    have value := amplitudeDb_of_ne_zero (mt zero.mp positive.ne')
    exact ⟨value, by rw [value, ten_logb_rmsRatio counted w positive]⟩
  · exact (amplitudeDb_eq_zero_iff nonneg).trans (rmsRatio_eq_one_iff counted _ w)

/-- Settles O46: the event holds the peak of the folded sample, whose ratio lies from 0 to 1. -/
theorem peakEventDbIsTheNearestDouble : Obligations.PeakEventDbIsTheNearestDouble := by
  intro p s x events db peak reference inv running magnitude sent event w
  have bound := (inv.streamInv running).foldSample_peak_le magnitude
  obtain ⟨_, rfl, rfl⟩ :=
    (State.peakEvent_mem_reportEvents_iff ..).mp (State.mem_reportEvents_of_sampleStep sent event)
  rw [State.wsize_eq_wordSizeNumber] at bound
  rw [State.foldSample_wsize, State.wsize_eq_wordSizeNumber]
  have nonneg := peakRatio_nonneg (s.foldSample x).peak.toNat w
  have zero := peakRatio_eq_zero_iff (s.foldSample x).peak.toNat w
  refine ⟨bound, _, reference.2 _ w _ bound (isPeakDb_amplitudeDb _ w), ?_, (amplitudeDb_eq_bot_iff _).trans zero,
    amplitudeDb_nonpos nonneg (peakRatio_le_one bound), ?_⟩
  · exact fun positive => amplitudeDb_of_ne_zero (mt zero.mp positive.ne')
  · exact (amplitudeDb_eq_zero_iff nonneg).trans (peakRatio_eq_one_iff _ w)

end Sys2Proof.Machine
end

-- Proofs: the block waits for missing bytes (60_exceptions.md R202, 70_reset_and_hazards.md R213)
section
/-! PROOF. When the host has sent only a part of a transaction, the block fetches nothing and the step stops. -/

namespace Sys2Proof.Machine

/-- Bytes with no hardware reset after them are all of what the host has sent. -/
theorem leadingBytes_map_byte (bytes : List Byte) : leadingBytes (bytes.map .byte) = (bytes, []) := by
  simpa [leadingBytes] using leadingBytes_append bytes []

/-- Bytes that are not a whole transaction, and no hardware reset, leave the block idle or waiting (R205, R213). -/
theorem fetch_map_byte_of_decode_error {bytes : List Byte} {e : Incomplete} (h : decode bytes = .error e) :
    fetch (bytes.map .byte) = if bytes = [] then .idle else .waiting := by
  simp only [fetch, leadingBytes_map_byte, h, List.isEmpty_iff]

/-- Settles O4: the block fetches no transaction and no reset, and the step stops with the name of what it fetched. -/
theorem stepWaitsForMissingBytes : Obligations.StepWaitsForMissingBytes := by
  intro s bytes e missing sent
  have fetched : fetch s.input = if bytes = [] then .idle else .waiting :=
    sent ▸ fetch_map_byte_of_decode_error missing
  by_cases nothing : bytes = []
  · rw [if_pos nothing] at fetched ⊢
    simp only [step, fetched]
  · rw [if_neg nothing] at fetched ⊢
    simp only [step, fetched]

end Sys2Proof.Machine
end

-- Proofs: reset and the first WRITE after it (70_reset_and_hazards.md R203, R204, R206)
section
/-! PROOF. A hardware reset is fetched ahead of a part transaction and performed with no response; the configuration either
reset leaves is bad, so a WRITE fails its validation, and what it records differs from the reset values only in LASTCODE. -/

namespace Sys2Proof.Machine

/-! ## The two resets -/

/-- The state after reset has every reset value: a further reset would only count itself (R203). -/
theorem State.reset_allAtReset : AllAtReset State.reset :=
  { State.reset.performReset_allAtReset with stream := { State.reset.performReset_allAtReset.stream with } }

/-- A hardware reset that comes before a transaction is whole is fetched in its place, and its bytes are gone (R204). -/
theorem fetch_reset_of_decode_error {bytes : List Byte} {e : Incomplete} (h : decode bytes = .error e)
    (after : List HostItem) : fetch (bytes.map .byte ++ .reset :: after) = .hardwareReset after := by
  have leading : leadingBytes (bytes.map .byte ++ .reset :: after) = (bytes, .reset :: after) := by
    simpa [leadingBytes] using leadingBytes_append bytes (.reset :: after)
  simp only [fetch, leading, h]

/-- The step performs the hardware reset the block has fetched (R203). -/
theorem step_of_fetch_hardwareReset {s : State} {after : List HostItem} (h : fetch s.input = .hardwareReset after) :
    step s = .next { s with input := after }.performReset := by
  simp only [step, h]

/-- A part transaction and a hardware reset after it are one step, which resets the block (R203, R204). -/
theorem step_hardwareReset {s : State} {bytes : List Byte} {e : Incomplete} {after : List HostItem}
    (part : decode bytes = .error e) (sent : s.input = bytes.map .byte ++ .reset :: after) :
    step s = .next { s with input := after }.performReset :=
  step_of_fetch_hardwareReset (sent ▸ fetch_reset_of_decode_error part after)

/-- Settles O1: both resets are `performReset`, and the response of the soft one is no part of the block's state. -/
theorem everyResetSetsEveryResetValue : Obligations.EveryResetSetsEveryResetValue :=
  ⟨State.reset_allAtReset,
    fun s _ set => ⟨_, exec_wrCtrl_softReset set s, s.performReset_allAtReset.respond .ok 0⟩,
    fun _ _ _ _ part sent => ⟨_, step_hardwareReset part sent, State.performReset_allAtReset _⟩⟩

/-- Settles O2: `performReset` keeps the channel and what was sent; only the soft reset responds after it. -/
theorem hardwareResetDiscardsAPartTransaction : Obligations.HardwareResetDiscardsAPartTransaction :=
  ⟨fun s _ _ after part sent =>
      ⟨_, step_hardwareReset part sent, State.performReset_input _, State.performReset_out { s with input := after }⟩,
    fun s _ set => ⟨_, exec_wrCtrl_softReset set s, s.performReset_input, by
      rw [State.respond_out, State.performReset_out]⟩⟩

/-! ## The first WRITE after a reset -/

/-- A configuration with no channel, no word size or no rate is bad, whatever the rest of it is (R129, R206). -/
theorem badConfiguration_of_missing {s : State}
    (missing : s.channels.toNat = 0 ∨ wordSizeNumber s = 0 ∨ s.rate.toNat = 0) : BadConfiguration s := by
  rcases missing with noChannel | noWordSize | noRate
  · exact .inl noChannel
  · exact .inr (.inl (.inl noWordSize))
  · exact .inr (.inr (.inl noRate))

/-- The reset configuration lacks all three (R206). -/
theorem AllAtReset.missing {s : State} (h : AllAtReset s) :
    s.channels.toNat = 0 ∧ wordSizeNumber s = 0 ∧ s.rate.toNat = 0 := by
  simp [wordSizeNumber, h.channels, h.format, h.rate]

/-- A failed validation at reset changes LASTCODE alone: RESULT, which it would clear, is 0 already (R132, R203). -/
theorem AllAtReset.failValidation {s : State} (h : AllAtReset s) (code : Code) :
    s.failValidation code = { s with lastCode := code, out := s.out ++ [.response code 0] } := by
  simp only [State.failValidation, State.raiseError, State.respond, h.result]

/-- Settles O5: each missing field is bad by itself, so validation fails at reset, and only the code is recorded. -/
theorem firstWriteAfterResetIsBad : Obligations.FirstWriteAfterResetIsBad := by
  obtain ⟨noChannel, noWordSize, noRate⟩ := State.reset_allAtReset.missing
  refine ⟨fun s missing => s.configBad_iff.mpr (badConfiguration_of_missing missing),
    noChannel, noWordSize, noRate, fun s payload h => ?_⟩
  have bad : BadConfiguration s := badConfiguration_of_missing (.inl h.missing.1)
  rw [exec_write, State.writeTransaction_fails h.phase (State.validate_of_bad bad) (by decide), h.failValidation]

end Sys2Proof.Machine
end
